-- ==== Sys2Proof/Word.lean ====
section
/-! DEFINITION. The word types of the Camrell 440 and the plainest arithmetic on them: bytes, 16-bit
addresses, counts that saturate, and the table type with its one lookup and one update. -/

namespace Sys2Proof

/-- One content byte (R1). -/
abbrev Byte := BitVec 8

/-- A 16-bit global address (00_scope section 5). -/
abbrev Address := BitVec 16

/-- A count raised by one that stays at its largest value (00_scope section 6, "Counters"). -/
def satInc {w : Nat} (x : BitVec w) : BitVec w :=
  if x = BitVec.allOnes w then x else x + 1

/-- The sum of two counts, held at the largest value. -/
def satAdd {w : Nat} (x y : BitVec w) : BitVec w :=
  if 2 ^ w ≤ x.toNat + y.toNat then BitVec.allOnes w else x + y

/-- A table of `n` like entries. -/
abbrev Table (α : Type) (n : Nat) := Vector α n

/-- The entry of a table at an index. -/
def look {α : Type} {n : Nat} (t : Table α n) (i : Fin n) : α := t[i.val]

/-- The table with one entry replaced. -/
def put {α : Type} {n : Nat} (t : Table α n) (i : Fin n) (a : α) : Table α n := t.set i.val a

/-- The lowest index that a test accepts. -/
def lowest {n : Nat} (p : Fin n → Bool) : Option (Fin n) := (List.finRange n).find? p

/-- How many indices a test accepts. -/
def countWhere {n : Nat} (p : Fin n → Bool) : Nat := (List.finRange n).countP p

end Sys2Proof
end

