-- ==== Sys2Proof/Syntax.lean ====
section
/-! DEFINITION. The commands of the Camrell 440: one constructor per row of spec/opcode_table.json, in the
table's order. The table gives the rows no operand fields; the operands are what the rules named in each
docstring read (log entries 7 and 10). -/

namespace Sys2Proof

/-- The commands, each one indivisible event (95_what_each_step_holds). -/
inductive Instr where
  /-- HARD_RESET (R129): RESET# goes low, or power-on. -/
  | hardReset
  /-- TRUNK_FRAME (R145): the trunk receiver takes a frame's content bytes. -/
  | trunkFrame (content : List Byte)
  /-- REQUEST (R70): a good trunk REQUEST; `flags` is bits 3-0 of its first byte. -/
  | request (flags : BitVec 4) (address : Address) (tag op : Byte) (payload : List Byte)
  /-- MANAGE (R146): a good MANAGE frame. -/
  | manage (address : Address) (tag code : Byte) (payload : List Byte)
  /-- HOLD (R150): a good HOLD frame. -/
  | hold (address : Address)
  /-- RELEASE (R150): a good RELEASE frame. -/
  | release (address : Address)
  /-- TRUNK_TRANSMISSION_END (R151). -/
  | trunkTransmissionEnd
  /-- PENDING_REQUEST_RESOLVED (R143). -/
  | pendingRequestResolved
  /-- TAKE_REQUEST (R159). -/
  | takeRequest
  /-- UNKNOWN_MANAGEMENT_CODE (R160): carries out the request in execution, which is unknown or misfits. -/
  | unknownManagementCode
  /-- STATUS_READ (R165): carries out the STATUS_READ in execution. -/
  | statusRead
  /-- COUNTER_READ (R167). -/
  | counterRead
  /-- SET_OWN_ADDRESS (R154). -/
  | setOwnAddress
  /-- SOFT_RESET_TRAFFIC (R169). -/
  | softResetTraffic
  /-- SOFT_RESET_FULL (R169). -/
  | softResetFull
  /-- ROUTE_WRITE (R33). -/
  | routeWrite
  /-- ROUTE_READ (R34). -/
  | routeRead
  /-- ROUTE_DELETE (R35). -/
  | routeDelete
  /-- ROUTE_REINSTATE (R36). -/
  | routeReinstate
  /-- PROFILE_WRITE (R22). -/
  | profileWrite
  /-- PROFILE_READ (R25). -/
  | profileRead
  /-- RECIPE_WRITE (R55). -/
  | recipeWrite
  /-- RECIPE_READ (R56). -/
  | recipeRead
  /-- RECIPE_CLEAR (R56). -/
  | recipeClear
  /-- CONST_WRITE (R47). -/
  | constWrite
  /-- CONST_READ (R48). -/
  | constRead
  /-- BRANCH_CONFIG (R105). -/
  | branchConfig
  /-- BRANCH_ENABLE (R107). -/
  | branchEnable
  /-- BRANCH_DRAIN (R109). -/
  | branchDrain
  /-- BRANCH_DISABLE (R108). -/
  | branchDisable
  /-- TRANSACTION_ABORT (R96). -/
  | transactionAbort
  /-- PENDING_READ (R99). -/
  | pendingRead
  /-- NOTICE_CLAIM (R136). -/
  | noticeClaim
  /-- NOTICE_RETIRE (R137). -/
  | noticeRetire
  /-- NOTICE_SETTINGS (R140). -/
  | noticeSettings
  /-- BRANCH_FRAME (R124): a branch receiver takes a frame's content bytes. -/
  | branchFrame (branch : Fin 4) (content : List Byte)
  /-- BRANCH_RESPONSE (R126): a good branch RESPONSE. -/
  | branchResponse (branch : Fin 4) (localAddress tag status : Byte) (payload : List Byte)
  /-- ALERT (R127): a good ALERT; its tag and op-or-status bytes are ignored (R10). -/
  | alert (branch : Fin 4) (localAddress : Byte) (payload : List Byte)
  /-- SCHEDULER_ISSUE (R116). -/
  | schedulerIssue (branch : Fin 4)
  /-- BRANCH_TRANSMISSION_END (R117). -/
  | branchTransmissionEnd (branch : Fin 4)
  /-- EXCHANGE_TIMER_EXPIRY (R88): the exchange timer of one tag of one branch. -/
  | exchangeTimerExpiry (branch : Fin 4) (tag : Fin 16)
  /-- SPACING_EXPIRY (R90): the spacing of the record in a slot. -/
  | spacingExpiry (slot : Fin 32)
  /-- PAUSE_EXPIRY (R91): the pause of the record in a slot. -/
  | pauseExpiry (slot : Fin 32)
  /-- COOL_DEADLINE_EXPIRY (R120). -/
  | coolDeadlineExpiry (branch : Fin 4) (tag : Fin 16)
  /-- DRAIN_DEADLINE_EXPIRY (R111). -/
  | drainDeadlineExpiry (branch : Fin 4)
  /-- LEASE_EXPIRY (R138): the lease of the notice at a place in arrival order. -/
  | leaseExpiry (place : Fin 16)
  /-- HARD_RESET_END (R153): RESET# rises; bit `i` of `straps` is the level of ADR`i`. -/
  | hardResetEnd (straps : BitVec 4)
  /-- SOFT_RESET_BAD_VALUE (R169). -/
  | softResetBadValue
deriving DecidableEq, Repr

end Sys2Proof
end

