-- ==== Sys2Proof/Config.lean ====
section
/-! DEFINITION. What the Camrell 440 fixes: the sizes of its tables and queues, its part code, the units of
its times. The spec leaves no value free, so no constant here is opaque. -/

namespace Sys2Proof.Config

/-- The part code that STATUS_READ reports (R165). -/
def partCode : BitVec 16 := 0x0440

/-- The revision that STATUS_READ reports (R165). -/
def revision : Byte := 1

/-- The strap address without its strap bits (R153). -/
def strapBase : Address := 0xFF00

/-- The transaction budget (R95). -/
def budget : Nat := 32

/-- The shared pool places of the Trunk Output Queue (R147). -/
def poolPlaces : Nat := 8

/-- The places of the Management Input Queue (R158). -/
def inputPlaces : Nat := 4

/-- The notices the Notice Queue holds (R130). -/
def noticePlaces : Nat := 16

/-- The largest accumulator of a transaction, and the largest branch payload (R62, R66). -/
def maxData : Nat := 64

/-- Time units (of 100 us) in a millisecond: cool intervals and drain deadlines (R105, R109). -/
def unitsPerMs : Nat := 10

/-- Time units (of 100 us) in a second: notice leases (R140). -/
def unitsPerS : Nat := 10000

end Sys2Proof.Config
end

