-- ==== Sys2Proof/Machine/State.lean ====
section
/-! DEFINITION. The state of the Camrell 440 as plain data, every piece of it that the spec names, and the
state right after reset. Fields the spec makes absent in some states sit inside the constructor of the
states that have them. -/

namespace Sys2Proof.Machine

/-- A point in time, in units of 100 us of the model's own time base `State.now` (log entry 1). -/
abbrev Time := Nat

/-- The op of a request and of a branch exchange (R4). -/
inductive Op where
  | read | write | exchange
deriving DecidableEq, Repr

/-- The width of a check (R15). -/
inductive Width where
  | w8 | w16 | w24 | w32
deriving DecidableEq, Repr

/-- One check profile (R15). The three values sit in the low bits of their 32. -/
structure CheckProfile where
  width      : Width
  polynomial : BitVec 32
  initial    : BitVec 32
  reflectIn  : Bool
  reflectOut : Bool
  finalXor   : BitVec 32
deriving DecidableEq, Repr

/-- The configuration of a route entry (section 3.1). A recipe field is `none` for DIRECT. -/
structure RouteConfig where
  globalAddress   : Address
  branch          : Fin 4
  localAddress    : Byte
  permitRead      : Bool
  permitWrite     : Bool
  permitExchange  : Bool
  recipeRead      : Option (Fin 32)
  recipeWrite     : Option (Fin 32)
  recipeExchange  : Option (Fin 32)
  profile         : Fin 4
  timeout         : BitVec 16
  retryLimit      : Fin 8
  quarantineLimit : BitVec 8
  alertSeverity   : Fin 8
deriving DecidableEq, Repr

/-- What a VALID or QUARANTINED entry holds beside its generation (R27). -/
structure LiveRoute where
  config      : RouteConfig
  quarantined : Bool
  failures    : BitVec 8
deriving DecidableEq, Repr

/-- A route entry; `live` is `none` while it is EMPTY (R27, R37). -/
structure RouteEntry where
  generation : BitVec 8
  live       : Option LiveRoute
deriving DecidableEq, Repr

/-- A slice or capture length: so many bytes, or all there are (R49). -/
inductive Extent where
  | bytes (n : Fin 65)
  | all
deriving DecidableEq, Repr

/-- A recipe step (R49, R50, R51). A constant block is `none` where the step names none. -/
inductive Step where
  | issue (op : Op) (block : Option (Fin 32)) (offset : Fin 64) (slice capture : Extent)
  | await (op : Op) (block : Option (Fin 32)) (compareIndex : Fin 64) (mask expected : Byte)
      (attemptLimit : BitVec 8) (spacing : BitVec 16)
  | pause (duration : BitVec 16)
deriving DecidableEq, Repr

/-- What a LOADED recipe slot holds (R46, R52, R53). -/
structure Recipe where
  steps        : List Step
  neededLength : Nat
  captureTotal : Nat
deriving DecidableEq, Repr

/-- The route snapshot of a transaction record (R31); `recipe` is `none` for DIRECT. -/
structure Snapshot where
  routeIndex      : Fin 128
  routeGeneration : BitVec 8
  branch          : Fin 4
  localAddress    : Byte
  profile         : Fin 4
  timeout         : BitVec 16
  retryLimit      : Fin 8
  recipe          : Option (Fin 32)
deriving DecidableEq, Repr

/-- The state of a live record, with the fields that state has (R84). -/
inductive RecordState where
  | queued
  | issued (tag : Fin 16) (deadline : Option Time)
  | spacing (deadline : Time)
  | paused (deadline : Time)
deriving DecidableEq, Repr

/-- A live transaction record (R83). -/
structure Record where
  state         : RecordState
  trunkTag      : Fin 64
  globalAddress : Address
  urgent        : Bool
  op            : Op
  snapshot      : Snapshot
  payload       : List Byte
  step          : Nat
  attempts      : Nat
  retries       : Nat
  accumulator   : List Byte
deriving DecidableEq, Repr

/-- A tag record (R118). -/
inductive TagRecord where
  | free
  | inUse (profile : Fin 4) (localAddress : Byte)
  | cooling (profile : Fin 4) (localAddress : Byte) (deadline : Time)
deriving DecidableEq, Repr

/-- The state of a Branch Port (R106); the drain deadline is present while DRAINING. -/
inductive BranchState where
  | disabled
  | enabled
  | draining (deadline : Time)
  | faulted
deriving DecidableEq, Repr

/-- The five settings of a Branch Port (R104); the cool interval is in milliseconds. -/
structure Settings where
  window           : Nat
  coolInterval     : Nat
  faultLimit       : Nat
  defaultProfile   : Fin 4
  unmappedSeverity : Fin 8
deriving DecidableEq, Repr

/-- A REQUEST frame in transmission on a branch (R9, R10, R117). -/
structure BranchRequest where
  localAddress : Byte
  tag          : Fin 16
  op           : Op
  payload      : List Byte
  check        : List Byte
deriving DecidableEq, Repr

/-- A Branch Port (chapter 7). The Issue Queue holds record slots, in two classes (R114). -/
structure BranchPort where
  state       : BranchState
  settings    : Settings
  urgentQueue : List (Fin 32)
  normalQueue : List (Fin 32)
  tx          : Option BranchRequest
  tags        : Table TagRecord 16
  consecutive : Nat
  counters    : Table (BitVec 32) 10
deriving DecidableEq, Repr

/-- The kind of a notice and its source (R130). -/
inductive NoticeSource where
  | nodeAlert (branch : Fin 4) (localAddress : Byte)
  | routeQuarantined (index : Fin 128)
  | branchFaulted (branch : Fin 4)
  | branchDrained (branch : Fin 4)
deriving DecidableEq, Repr

/-- What a CLAIMED notice holds (R130). -/
structure Claim where
  id       : BitVec 8
  deadline : Time
deriving DecidableEq, Repr

/-- A notice; `claim` is `none` while it is UNCLAIMED (R130). -/
structure Notice where
  source        : NoticeSource
  severity      : Fin 8
  globalAddress : Option Address
  repeats       : BitVec 8
  data          : List Byte
  forced        : Bool
  claim         : Option Claim
  previousId    : Option (BitVec 8)
deriving DecidableEq, Repr

/-- A trunk frame (section 1.2); `flags` is bits 3-0 of the first content byte. -/
structure TrunkFrame where
  kind    : BitVec 4
  flags   : BitVec 4
  address : Address
  tag     : Byte
  code    : Byte
  payload : List Byte
  check   : BitVec 16
deriving DecidableEq, Repr

/-- The two kinds of place in the Trunk Output Queue (R147). -/
inductive Place where
  | reserved | pool
deriving DecidableEq, Repr

/-- A frame in the Trunk Output Queue, complete, with its place (R147, R148). -/
structure OutFrame where
  frame : TrunkFrame
  place : Place
deriving DecidableEq, Repr

/-- The trunk transmitter (R149). The frame in transmission is the head of the queue; HELD says whether
one begun before the HOLD is still being sent (log entry 11). -/
inductive TrunkTx where
  | idle
  | sending
  | held (finishing : Bool)
deriving DecidableEq, Repr

/-- A MANAGE frame as the Management Input Queue holds it (R158). -/
structure ManageRequest where
  tag     : Byte
  code    : Byte
  payload : List Byte
deriving DecidableEq, Repr

/-- The Management Agent (R159). In EXECUTING it holds the request in execution and one reserved pool
place. -/
inductive Agent where
  | idle
  | waiting
  | executing (request : ManageRequest)
deriving DecidableEq, Repr

/-- The state of the part. -/
structure State where
  /-- RESET# is low (R129, R145). -/
  resetLow         : Bool
  /-- The model's own time base (log entry 1). -/
  now              : Time
  /-- R153, R154. -/
  ownAddress       : Address
  /-- R149. -/
  tx               : TrunkTx
  /-- The Trunk Output Queue (R147). -/
  toq              : List OutFrame
  /-- R156. -/
  trunkCounters    : Table (BitVec 32) 16
  /-- The Management Input Queue (R158). -/
  inq              : List ManageRequest
  /-- R159. -/
  agent            : Agent
  /-- R15. -/
  profiles         : Table CheckProfile 4
  /-- R27. -/
  routes           : Table RouteEntry 128
  /-- R46; `none` is EMPTY. -/
  recipes          : Table (Option Recipe) 32
  /-- The constant blocks (R47). -/
  blocks           : Table (List Byte) 32
  /-- The Transaction Table (R83); `none` is a free slot. -/
  records          : Table (Option Record) 32
  /-- Chapter 7. -/
  branches         : Table BranchPort 4
  /-- In arrival order (R130). -/
  notices          : List Notice
  /-- R140. -/
  threshold        : Fin 8
  /-- In seconds (R140). -/
  lease            : Nat
  /-- The claim-id counter (R136). -/
  nextClaim        : BitVec 8
  /-- The lost count (R135). -/
  lost             : BitVec 16
  /-- An attention request is pending (R142, R143). -/
  attentionPending : Bool
  /-- ATTN# is driven low (R141). -/
  attn             : Bool
  /-- The model's own queue of waiting commands, the next at the front (log entry 2). -/
  pending          : List Instr
deriving DecidableEq, Repr

/-- The reasons a command can stop the part. The spec names none (frames are counted, refused or
answered), so there is no constructor: no meaning faults. -/
inductive Fault where
deriving DecidableEq, Repr

/-- The reasons the model gives a command no meaning. -/
inductive Refusal where
  /-- Raised by exec's arm of a command without a meaning yet; safe, it stops the run. No arm raises it. -/
  | notModelled (mnemonic : String)
deriving DecidableEq, Repr

/-- What a command answers. -/
abbrev StepResult := Host.Outcome State Fault Refusal

/-- The default parameters of profile 0 (section 2.2), which are also the trunk check's (R14). -/
def defaultProfile0 : CheckProfile := ⟨.w16, 0x1021, 0xFFFF, false, false, 0x0000⟩

/-- The default parameters of the four profiles (section 2.2). -/
def defaultProfiles : Table CheckProfile 4 :=
  #v[defaultProfile0,
     ⟨.w8, 0x07, 0x00, false, false, 0x00⟩,
     ⟨.w32, 0x1EDC6F41, 0xFFFFFFFF, true, true, 0xFFFFFFFF⟩,
     ⟨.w24, 0x864CFB, 0xB704CE, false, false, 0x000000⟩]

/-- The default settings of a branch (section 7.1). -/
def defaultSettings : Settings := ⟨1, 10, 8, 0, 3⟩

/-- A Branch Port after a hard reset (R129). -/
def resetPort : BranchPort :=
  { state := .disabled, settings := defaultSettings, urgentQueue := [], normalQueue := [], tx := none
    tags := Vector.replicate 16 .free, consecutive := 0, counters := Vector.replicate 10 0 }

/-- The part right after a hard reset has ended with every strap low (R26, R45, R68, R101, R129, R144,
R153, R156, R157, R164; the straps are DESIGN CHOICE, log entry 5). -/
def State.reset : State :=
  { resetLow := false, now := 0, ownAddress := Config.strapBase, tx := .idle, toq := []
    trunkCounters := Vector.replicate 16 0, inq := [], agent := .idle, profiles := defaultProfiles
    routes := Vector.replicate 128 ⟨0, none⟩, recipes := Vector.replicate 32 none
    blocks := Vector.replicate 32 [], records := Vector.replicate 32 none
    branches := Vector.replicate 4 resetPort, notices := [], threshold := 0, lease := 10, nextClaim := 0
    lost := 0, attentionPending := false, attn := false, pending := [] }

end Sys2Proof.Machine
end

