-- ==== Sys2Proof/Machine/Flags.lean ====
section
/-! DEFINITION. The check computation (R14 to R18) and the conditions the part derives from its state: the
branch of a record, the counts, the in-use conditions, the pool, the budget, the attention condition. -/

namespace Sys2Proof.Machine

/-! ### Multi-byte fields -/

/-- A number as `n` bytes, most significant first (R1). -/
def toBytes : Nat → Nat → List Byte
  | 0, _ => []
  | n + 1, x => BitVec.ofNat 8 (x / 256 ^ n) :: toBytes n x

/-- Bytes read as a number, most significant first (R1). -/
def ofBytes (bytes : List Byte) : Nat := bytes.foldl (fun acc b => acc * 256 + b.toNat) 0

/-! ### The check computation -/

/-- Check parameters at a width of `w` bits (R15). -/
structure CheckParams (w : Nat) where
  polynomial : BitVec w
  initial    : BitVec w
  reflectIn  : Bool
  reflectOut : Bool
  finalXor   : BitVec w

/-- Bits exchanged in mirror order over the whole width (R18). -/
def reflect {w : Nat} (x : BitVec w) : BitVec w := x.reverse

/-- One bit enters the register (R16). -/
def enterBit {w : Nat} (polynomial register : BitVec w) (bit : Bool) : BitVec w :=
  if bit = register.msb then register <<< 1 else (register <<< 1) ^^^ polynomial

/-- The eight bits of a byte enter the register, bit 7 first (R16). -/
def enterByte {w : Nat} (polynomial register : BitVec w) (byte : Byte) : BitVec w :=
  [7, 6, 5, 4, 3, 2, 1, 0].foldl (fun reg i => enterBit polynomial reg (byte.getLsbD i)) register

/-- The remainder over a sequence of bytes (R16). -/
def remainder {w : Nat} (p : CheckParams w) (bytes : List Byte) : BitVec w :=
  bytes.foldl (fun reg b => enterByte p.polynomial reg (if p.reflectIn then reflect b else b)) p.initial

/-- The check value over a sequence of bytes (R17). -/
def checkValue {w : Nat} (p : CheckParams w) (bytes : List Byte) : BitVec w :=
  (if p.reflectOut then reflect (remainder p bytes) else remainder p bytes) ^^^ p.finalXor

/-- The bytes of a check field of this width (R9, R15). -/
def Width.bytes : Width → Nat
  | .w8 => 1
  | .w16 => 2
  | .w24 => 3
  | .w32 => 4

/-- The bits of a check of this width (R15). -/
def Width.bits (w : Width) : Nat := 8 * w.bytes

/-- A profile's parameters at its width (R15). -/
def CheckProfile.params (p : CheckProfile) : CheckParams p.width.bits :=
  { polynomial := p.polynomial.setWidth _, initial := p.initial.setWidth _, reflectIn := p.reflectIn
    reflectOut := p.reflectOut, finalXor := p.finalXor.setWidth _ }

/-- The check field over header and payload with a profile, most significant byte first (R17). -/
def CheckProfile.checkBytes (p : CheckProfile) (bytes : List Byte) : List Byte :=
  toBytes p.width.bytes (checkValue p.params bytes).toNat

/-- The fixed trunk check (R14). -/
def trunkCheck (bytes : List Byte) : BitVec 16 :=
  checkValue { polynomial := 0x1021, initial := 0xFFFF, reflectIn := false, reflectOut := false, finalXor := 0 }
    bytes

/-! ### The parts of State by index -/

/-- The route entry at an index. -/
def State.route (s : State) (i : Fin 128) : RouteEntry := look s.routes i

/-- A branch's port. -/
def State.branch (s : State) (b : Fin 4) : BranchPort := look s.branches b

/-- The live record in a slot, if the slot is not free. -/
def State.record (s : State) (i : Fin 32) : Option Record := look s.records i

/-- The recipe in a slot, if the slot is LOADED. -/
def State.recipe (s : State) (k : Fin 32) : Option Recipe := look s.recipes k

/-- The bytes of a constant block. -/
def State.block (s : State) (k : Fin 32) : List Byte := look s.blocks k

/-- The check profile at an index. -/
def State.profile (s : State) (p : Fin 4) : CheckProfile := look s.profiles p

/-- A tag record of a branch. -/
def BranchPort.tag (p : BranchPort) (t : Fin 16) : TagRecord := look p.tags t

/-! ### Conditions on records -/

/-- The record is ISSUED. -/
def Record.isIssued (r : Record) : Bool :=
  match r.state with
  | .issued _ _ => true
  | .queued | .spacing _ | .paused _ => false

/-- The record is QUEUED. -/
def Record.isQueued (r : Record) : Bool :=
  match r.state with
  | .queued => true
  | .issued _ _ | .spacing _ | .paused _ => false

/-- The record is ISSUED on this branch tag. -/
def Record.holdsTag (r : Record) (t : Fin 16) : Bool :=
  match r.state with
  | .issued t' _ => t' == t
  | .queued | .spacing _ | .paused _ => false

/-- The slot holds a live record that a test accepts. -/
def State.recordIs (s : State) (p : Record → Bool) (i : Fin 32) : Bool :=
  match s.record i with
  | some r => p r
  | none => false

/-- The number of live records (R165). -/
def State.liveCount (s : State) : Nat := countWhere (s.recordIs fun _ => true)

/-- The number of live records whose snapshot names a branch (R106). -/
def State.liveOn (s : State) (b : Fin 4) : Nat := countWhere (s.recordIs fun r => r.snapshot.branch == b)

/-- The number of ISSUED records of a branch (R115). -/
def State.issuedOn (s : State) (b : Fin 4) : Nat :=
  countWhere (s.recordIs fun r => r.snapshot.branch == b && r.isIssued)

/-- The slot of the ISSUED record that holds a branch tag of a branch (R84). -/
def State.holderOf (s : State) (b : Fin 4) (t : Fin 16) : Option (Fin 32) :=
  lowest (s.recordIs fun r => r.snapshot.branch == b && r.holdsTag t)

/-- The slot of the live record that holds a trunk tag (R75, R96). -/
def State.slotOfTag (s : State) (tag : Byte) : Option (Fin 32) :=
  lowest (s.recordIs fun r => r.trunkTag.val == tag.toNat)

/-- The lowest-numbered free slot (R77). -/
def State.freeSlot (s : State) : Option (Fin 32) := lowest fun i => (s.record i).isNone

/-! ### Tags -/

/-- The tag record is FREE. -/
def TagRecord.isFree : TagRecord → Bool
  | .free => true
  | .inUse _ _ | .cooling _ _ _ => false

/-- The tag record is IN_USE. -/
def TagRecord.isInUse : TagRecord → Bool
  | .inUse _ _ => true
  | .free | .cooling _ _ _ => false

/-- The tag record is COOLING and holds a profile (R20). -/
def TagRecord.coolsProfile (p : Fin 4) : TagRecord → Bool
  | .cooling q _ _ => q == p
  | .free | .inUse _ _ => false

/-- The lowest-numbered FREE tag of a port (R116). -/
def BranchPort.freeTag (p : BranchPort) : Option (Fin 16) := lowest fun t => (p.tag t).isFree

/-! ### The in-use conditions -/

/-- Live records whose snapshot names a profile (R20, R25). -/
def State.profileRecords (s : State) (p : Fin 4) : Nat :=
  countWhere (s.recordIs fun r => r.snapshot.profile == p)

/-- COOLING tags, over all branches, that hold a profile (R20, R25). -/
def State.profileCooling (s : State) (p : Fin 4) : Nat :=
  ((List.finRange 4).map fun b => countWhere fun t => ((s.branch b).tag t).coolsProfile p).sum

/-- The profile is in use (R20). -/
def State.profileInUse (s : State) (p : Fin 4) : Bool :=
  s.profileRecords p != 0 || s.profileCooling p != 0

/-- Live records executing a recipe (R57). -/
def State.recipeRecords (s : State) (k : Fin 32) : Nat :=
  countWhere (s.recordIs fun r => r.snapshot.recipe == some k)

/-- The recipe is in use (R57). -/
def State.recipeInUse (s : State) (k : Fin 32) : Bool := s.recipeRecords k != 0

/-! ### The Trunk Output Queue -/

/-- Frames of the queue in a kind of place. -/
def framesIn (place : Place) (toq : List OutFrame) : Nat := toq.countP fun f => f.place == place

/-- The pool place that the Agent holds reserved (R147, R159). -/
def Agent.reservation : Agent → Nat
  | .executing _ => 1
  | .idle | .waiting => 0

/-- Pool places taken (R147). -/
def State.poolTaken (s : State) : Nat := framesIn .pool s.toq + s.agent.reservation

/-- A pool place is free (R147). -/
def State.poolFree (s : State) : Bool := s.poolTaken < Config.poolPlaces

/-- The budget in use (R95). -/
def State.budgetInUse (s : State) : Nat := s.liveCount + framesIn .reserved s.toq

/-- A frame is in transmission on the trunk (R149). -/
def TrunkTx.inFlight : TrunkTx → Bool
  | .sending => true
  | .held finishing => finishing
  | .idle => false

/-- The trunk transmitter is HELD (R149). -/
def TrunkTx.isHeld : TrunkTx → Bool
  | .held _ => true
  | .idle | .sending => false

/-! ### Branch states -/

/-- The branch judges frames and issues records: it is ENABLED or DRAINING (R106). -/
def BranchState.working : BranchState → Bool
  | .enabled | .draining _ => true
  | .disabled | .faulted => false

/-- The branch is DRAINING (R106). -/
def BranchState.isDraining : BranchState → Bool
  | .draining _ => true
  | .disabled | .enabled | .faulted => false

/-- The Issue Queue in scheduling order: URGENT before NORMAL (R114, R115). -/
def BranchPort.issueQueue (p : BranchPort) : List (Fin 32) := p.urgentQueue ++ p.normalQueue

/-- The scheduler's conditions (R115). -/
def State.canIssue (s : State) (b : Fin 4) : Bool :=
  (s.branch b).state.working && (s.branch b).tx.isNone
    && s.issuedOn b < (s.branch b).settings.window
    && (s.branch b).freeTag.isSome && !(s.branch b).issueQueue.isEmpty

/-! ### Notices -/

/-- The notice is UNCLAIMED. -/
def Notice.unclaimed (n : Notice) : Bool := n.claim.isNone

/-- The notice calls for attention at a threshold (R141). -/
def Notice.calls (threshold : Fin 8) (n : Notice) : Bool := n.unclaimed && threshold < n.severity

/-- The attention condition (R141). -/
def State.attentionCondition (s : State) : Bool := s.notices.any (Notice.calls s.threshold)

/-- How many UNCLAIMED notices are above the threshold (R8). -/
def State.callingCount (s : State) : Nat := s.notices.countP (Notice.calls s.threshold)

/-- The highest severity of a list of notices, 0 where it is empty. -/
def highestSeverity (ns : List Notice) : Nat := ns.foldl (fun m n => max m n.severity.val) 0

/-- The highest severity among the UNCLAIMED notices above the threshold (R8). -/
def State.callingSeverity (s : State) : Nat :=
  highestSeverity (s.notices.filter (Notice.calls s.threshold))

end Sys2Proof.Machine
end

