-- ==== Sys2Proof/Machine/Operands.lean ====
section
/-! DEFINITION. The codes of chapter 1 and the layouts of its frames and records: how each is written as
bytes and how the part reads it from bytes. -/

namespace Sys2Proof.Machine

/-! ### Codes -/

/-- The code of an op (R4). -/
def Op.code : Op → Byte
  | .read => 1
  | .write => 2
  | .exchange => 3

/-- The op of a code; codes 0 and 4 to 255 are unknown (R4). -/
def Op.ofCode (c : Byte) : Option Op :=
  if c = 1 then some .read else if c = 2 then some .write else if c = 3 then some .exchange else none

/-- The trunk kind codes (section 1.2.1). -/
def kindRequest : BitVec 4 := 1
/-- Kind RESPONSE. -/
def kindResponse : BitVec 4 := 2
/-- Kind MANAGE. -/
def kindManage : BitVec 4 := 3
/-- Kind MANAGE_REPLY. -/
def kindManageReply : BitVec 4 := 4
/-- Kind ATTENTION. -/
def kindAttention : BitVec 4 := 5
/-- Kind HOLD. -/
def kindHold : BitVec 4 := 6
/-- Kind RELEASE. -/
def kindRelease : BitVec 4 := 7

/-- The refusal statuses of Admission (R5, R70). -/
inductive RefusalStatus where
  | noRoute | unreachable | branchDown | branchDraining | tagInUse | busy | denied | malformed | noRecipe
deriving DecidableEq, Repr

/-- The status value of a refusal (R5). -/
def RefusalStatus.code : RefusalStatus → Byte
  | .noRoute => 1
  | .unreachable => 2
  | .branchDown => 3
  | .branchDraining => 4
  | .tagInUse => 5
  | .busy => 6
  | .denied => 7
  | .malformed => 8
  | .noRecipe => 9

/-- The statuses a transaction ends with (R92); NODE_ERROR carries the node's status byte (R64). -/
inductive Ending where
  | ok | timeout | nodeError (node : Byte) | awaitExhausted | shortData | branchFault | aborted
  | stepOversize | branchDown
deriving DecidableEq, Repr

/-- The status value of an ending (R5). -/
def Ending.code : Ending → Byte
  | .ok => 0
  | .branchDown => 3
  | .timeout => 16
  | .nodeError _ => 17
  | .awaitExhausted => 18
  | .shortData => 19
  | .branchFault => 20
  | .aborted => 21
  | .stepOversize => 22

/-- The node code a RESPONSE carries for an ending (R5, R93). -/
def Ending.nodeCode : Ending → Byte
  | .nodeError node => node
  | .ok | .timeout | .awaitExhausted | .shortData | .branchFault | .aborted | .stepOversize
  | .branchDown => 0

/-- The results of a MANAGE_REPLY (R7). -/
inductive Result where
  | done | accepted | badRequest | badValue | inUse | notFound | staleClaim | empty | busy | badState
  | conflict
deriving DecidableEq, Repr

/-- The result value (R7). -/
def Result.code : Result → Byte
  | .done => 0
  | .accepted => 1
  | .badRequest => 2
  | .badValue => 3
  | .inUse => 4
  | .notFound => 5
  | .staleClaim => 7
  | .empty => 8
  | .busy => 9
  | .badState => 10
  | .conflict => 11

/-- The reported code of a branch state (R106). -/
def BranchState.code : BranchState → Byte
  | .disabled => 0
  | .enabled => 1
  | .draining _ => 2
  | .faulted => 3

/-- The reported code of a record's state (R96, R99). -/
def RecordState.code : RecordState → Nat
  | .queued => 1
  | .issued _ _ => 2
  | .spacing _ => 3
  | .paused _ => 4

/-- A byte as an index below `n`, or none when it is out of range. -/
def index? (n : Nat) (b : Byte) : Option (Fin n) :=
  if h : b.toNat < n then some ⟨b.toNat, h⟩ else none

/-- An index as a byte. -/
def indexByte {n : Nat} (i : Fin n) : Byte := BitVec.ofNat 8 i.val

/-- A local address that a node may hold, 1 to 126 (R10, R11). -/
def localAddressOk (a : Byte) : Bool := 1 ≤ a.toNat && a.toNat ≤ 126

/-! ### Trunk frames (section 1.2) -/

/-- The six header bytes and the payload, over which the trunk check is computed (R2). -/
def trunkBody (kind flags : BitVec 4) (address : Address) (tag code : Byte) (payload : List Byte) :
    List Byte :=
  (kind ++ flags) :: toBytes 2 address.toNat ++ [tag, code, BitVec.ofNat 8 payload.length] ++ payload

/-- A trunk frame that the part builds: bits 3-0 zero, its check computed (R2, R148). -/
def buildTrunk (kind : BitVec 4) (address : Address) (tag code : Byte) (payload : List Byte) : TrunkFrame :=
  { kind, flags := 0, address, tag, code, payload
    check := trunkCheck (trunkBody kind 0 address tag code payload) }

/-- The content bytes of a trunk frame (section 1.2). -/
def TrunkFrame.content (f : TrunkFrame) : List Byte :=
  trunkBody f.kind f.flags f.address f.tag f.code f.payload ++ toBytes 2 f.check.toNat

/-- The frame that a content is, where it passes the tests of R2: Length at most 96, content length 8 plus
Length, and the trunk check. -/
def readTrunk : List Byte → Option TrunkFrame
  | first :: a1 :: a0 :: tag :: code :: length :: rest =>
    if length.toNat ≤ 96 ∧ rest.length = length.toNat + 2 then
      let payload := rest.take length.toNat
      let check : BitVec 16 := BitVec.ofNat 16 (ofBytes (rest.drop length.toNat))
      if trunkCheck (first :: a1 :: a0 :: tag :: code :: length :: payload) = check then
        some { kind := first.extractLsb' 4 4, flags := first.extractLsb' 0 4, address := a1 ++ a0
               tag, code, payload, check }
      else none
    else none
  | _ => none

/-- The RESPONSE payload: failing step, node code, accumulator (section 1.3.2). -/
def responsePayload (failingStep nodeCode : Byte) (accumulator : List Byte) : List Byte :=
  failingStep :: nodeCode :: accumulator

/-! ### Branch frames (section 1.6) -/

/-- The five header bytes and the payload of a branch frame, over which its check is computed (R9). -/
def branchBody (kind localAddress tag opOrStatus : Byte) (payload : List Byte) : List Byte :=
  [kind, localAddress, tag, opOrStatus, BitVec.ofNat 8 payload.length] ++ payload

/-- The header and payload of a branch REQUEST (R10). -/
def requestBody (localAddress : Byte) (tag : Fin 16) (op : Op) (payload : List Byte) : List Byte :=
  branchBody 1 localAddress (indexByte tag) op.code payload

/-- A branch REQUEST built with a profile (R9, R10). -/
def buildRequest (p : CheckProfile) (localAddress : Byte) (tag : Fin 16) (op : Op) (payload : List Byte) :
    BranchRequest :=
  { localAddress, tag, op, payload, check := p.checkBytes (requestBody localAddress tag op payload) }

/-- The content bytes of a branch REQUEST (section 1.6). -/
def BranchRequest.content (f : BranchRequest) : List Byte :=
  requestBody f.localAddress f.tag f.op f.payload ++ f.check

/-- The fields of a received branch frame. -/
structure BranchFrame where
  kind         : Byte
  localAddress : Byte
  tag          : Byte
  opOrStatus   : Byte
  payload      : List Byte
deriving DecidableEq, Repr

/-- The profile index a received frame is checked with: that of the IN_USE or COOLING tag that a RESPONSE
names, and otherwise the branch's default profile (R124). -/
def BranchPort.profileFor (p : BranchPort) (kind tag : Byte) : Fin 4 :=
  if kind = 2 then
    match index? 16 tag with
    | some t =>
      match p.tag t with
      | .inUse q _ => q
      | .cooling q _ _ => q
      | .free => p.settings.defaultProfile
    | none => p.settings.defaultProfile
  else p.settings.defaultProfile

/-- The frame that a content is, where it is good for this port with these profiles (R9, R124): Length at
most 64, content length 5 plus Length plus the check bytes, and the check. -/
def readBranch (port : BranchPort) (profiles : Table CheckProfile 4) : List Byte → Option BranchFrame
  | kind :: localAddress :: tag :: opOrStatus :: length :: rest =>
    let p := look profiles (port.profileFor kind tag)
    if length.toNat ≤ 64 ∧ rest.length = length.toNat + p.width.bytes then
      let payload := rest.take length.toNat
      if p.checkBytes (kind :: localAddress :: tag :: opOrStatus :: length :: payload)
          = rest.drop length.toNat then
        some { kind, localAddress, tag, opOrStatus, payload }
      else none
    else none
  | _ => none

/-! ### The route entry record (section 1.7.1) -/

/-- A recipe field: 0 to 31, or 0xFF for DIRECT; `none` when out of range (R11). The constant-block byte
of a step is coded alike (R12). -/
def slotChoice? (b : Byte) : Option (Option (Fin 32)) :=
  if b = 0xFF then some none else (index? 32 b).map some

/-- The byte of a recipe field or of a constant-block byte. -/
def slotChoiceByte : Option (Fin 32) → Byte
  | none => 0xFF
  | some k => indexByte k

/-- The configuration that bytes 1 to 14 of a route entry record carry, where every field is in range
(R11). -/
def readRoute : List Byte → Option RouteConfig
  | [_, a1, a0, br, la, ops, rr, rw, rx, pr, t1, t0, rl, ql, sev, _, _] => do
    let branch ← index? 4 br
    guard (localAddressOk la && ops.toNat < 8 && t1 ++ t0 != (0 : BitVec 16))
    let recipeRead ← slotChoice? rr
    let recipeWrite ← slotChoice? rw
    let recipeExchange ← slotChoice? rx
    let profile ← index? 4 pr
    let retryLimit ← index? 8 rl
    let alertSeverity ← index? 8 sev
    some { globalAddress := a1 ++ a0, branch, localAddress := la, permitRead := ops.getLsbD 0
           permitWrite := ops.getLsbD 1, permitExchange := ops.getLsbD 2, recipeRead, recipeWrite
           recipeExchange, profile, timeout := t1 ++ t0, retryLimit, quarantineLimit := ql, alertSeverity }
  | _ => none

/-- The permitted-ops byte (section 1.7.1). -/
def RouteConfig.opsByte (c : RouteConfig) : Byte :=
  BitVec.ofNat 8 (c.permitRead.toNat + 2 * c.permitWrite.toNat + 4 * c.permitExchange.toNat)

/-- The 17-byte record of a route entry (R11, R34). -/
def RouteEntry.bytes (e : RouteEntry) : List Byte :=
  match e.live with
  | none => [0, 0, 0, 0, 0, 0, 0xFF, 0xFF, 0xFF, 0, 0, 0, 0, 0, 0, 0, e.generation]
  | some r =>
    let c := r.config
    (if r.quarantined then 2 else 1) :: toBytes 2 c.globalAddress.toNat
      ++ [indexByte c.branch, c.localAddress, c.opsByte, slotChoiceByte c.recipeRead,
          slotChoiceByte c.recipeWrite, slotChoiceByte c.recipeExchange, indexByte c.profile]
      ++ toBytes 2 c.timeout.toNat
      ++ [indexByte c.retryLimit, c.quarantineLimit, indexByte c.alertSeverity, r.failures, e.generation]

/-! ### The recipe step record (section 1.7.2) -/

/-- A slice or capture length: 0 to 64, or 255 for all (R12). -/
def extent? (b : Byte) : Option Extent :=
  if b = 255 then some .all else (index? 65 b).map .bytes

/-- The byte of a slice or capture length. -/
def Extent.byte : Extent → Byte
  | .all => 255
  | .bytes n => indexByte n

/-- A spacing or duration in range, 1 to 10000 (R12). -/
def durationOk (d : BitVec 16) : Bool := 1 ≤ d.toNat && d.toNat ≤ 10000

/-- The step that a 10-byte record carries, where its kind, op and used fields are in range (R12). -/
def readStep : List Byte → Option Step
  | [k, b1, b2, b3, b4, b5, b6, b7, b8, _] =>
    if k = 1 then do
      let op ← Op.ofCode b1
      let block ← slotChoice? b2
      let offset ← index? 64 b3
      let slice ← extent? b4
      let capture ← extent? b5
      some (.issue op block offset slice capture)
    else if k = 2 then do
      let op ← Op.ofCode b1
      let block ← slotChoice? b2
      let compareIndex ← index? 64 b3
      guard (b6 != 0 && durationOk (b7 ++ b8))
      some (.await op block compareIndex b4 b5 b6 (b7 ++ b8))
    else if k = 3 then do
      guard (durationOk (b1 ++ b2))
      some (.pause (b1 ++ b2))
    else none
  | _ => none

/-- The 10-byte record of a step, its unused bytes 0 (R12, R56). -/
def Step.bytes : Step → List Byte
  | .issue op block offset slice capture =>
    [1, op.code, slotChoiceByte block, indexByte offset, slice.byte, capture.byte, 0, 0, 0, 0]
  | .await op block compareIndex mask expected limit spacing =>
    [2, op.code, slotChoiceByte block, indexByte compareIndex, mask, expected, limit]
      ++ toBytes 2 spacing.toNat ++ [0]
  | .pause duration => 3 :: toBytes 2 duration.toNat ++ [0, 0, 0, 0, 0, 0, 0]

/-- The bytes an ISSUE step asks of the request payload (R52). -/
def Step.needed : Step → Nat
  | .issue _ _ offset (.bytes n) _ => offset.val + n.val
  | .issue _ _ offset .all _ => offset.val
  | .await _ _ _ _ _ _ _ => 0
  | .pause _ => 0

/-- The fixed capture of an ISSUE step (R53). -/
def Step.fixedCapture : Step → Nat
  | .issue _ _ _ _ (.bytes n) => n.val
  | .issue _ _ _ _ .all => 0
  | .await _ _ _ _ _ _ _ => 0
  | .pause _ => 0

/-- The needed request length of a list of steps (R52). -/
def neededLength (steps : List Step) : Nat := (steps.map Step.needed).foldl max 0

/-- The fixed capture total of a list of steps (R53). -/
def captureTotal (steps : List Step) : Nat := (steps.map Step.fixedCapture).sum

/-- A recipe with its two derived lengths (R52, R53). -/
def loadedRecipe (steps : List Step) : Recipe :=
  { steps, neededLength := neededLength steps, captureTotal := captureTotal steps }

/-- `n` step records cut from the payload, 10 bytes each (R54). -/
def stepRecords : Nat → List Byte → List (List Byte)
  | 0, _ => []
  | n + 1, bytes => bytes.take 10 :: stepRecords n (bytes.drop 10)

/-- Test 3 of R54: the steps judged in order, from index `i` with `total` captured before; the index of
the first step that fails, or the steps. -/
def loadSteps : List (List Byte) → Nat → Nat → Except Nat (List Step)
  | [], _, _ => .ok []
  | record :: rest, i, total =>
    match readStep record with
    | none => .error i
    | some step =>
      if 64 < total + step.fixedCapture then .error i
      else
        match loadSteps rest (i + 1) (total + step.fixedCapture) with
        | .error j => .error j
        | .ok steps => .ok (step :: steps)

/-! ### Check profiles in management frames (section 2.6) -/

/-- The width a byte names (R15). -/
def width? (b : Byte) : Option Width :=
  if b = 8 then some .w8 else if b = 16 then some .w16
  else if b = 24 then some .w24 else if b = 32 then some .w32 else none

/-- Tests 2 to 5 of R21 on the fields of a PROFILE_WRITE after its index. -/
def readProfile : List Byte → Option CheckProfile
  | [w, flags, p3, p2, p1, p0, i3, i2, i1, i0, x3, x2, x1, x0] => do
    let width ← width? w
    let polynomial := BitVec.ofNat 32 (ofBytes [p3, p2, p1, p0])
    let initial := BitVec.ofNat 32 (ofBytes [i3, i2, i1, i0])
    let finalXor := BitVec.ofNat 32 (ofBytes [x3, x2, x1, x0])
    guard (flags.toNat < 4 && polynomial.toNat < 2 ^ width.bits && initial.toNat < 2 ^ width.bits
      && finalXor.toNat < 2 ^ width.bits && polynomial.getLsbD 0)
    some { width, polynomial, initial, reflectIn := flags.getLsbD 0, reflectOut := flags.getLsbD 1, finalXor }
  | _ => none

/-- The 14 bytes of a profile after its index (R25). -/
def CheckProfile.bytes (p : CheckProfile) : List Byte :=
  [BitVec.ofNat 8 p.width.bits, BitVec.ofNat 8 (p.reflectIn.toNat + 2 * p.reflectOut.toNat)]
    ++ toBytes 4 p.polynomial.toNat ++ toBytes 4 p.initial.toNat ++ toBytes 4 p.finalXor.toNat

/-! ### The notice record (section 1.7.3) -/

/-- The kind, source branch and source detail bytes of a notice. -/
def NoticeSource.bytes : NoticeSource → Byte × Byte × Byte
  | .nodeAlert b a => (1, indexByte b, a)
  | .routeQuarantined i => (2, 0, indexByte i)
  | .branchFaulted b => (3, indexByte b, 0)
  | .branchDrained b => (4, indexByte b, 0)

/-- The claim id of a CLAIMED notice, 0 while UNCLAIMED. -/
def Notice.claimId (n : Notice) : Byte :=
  match n.claim with
  | some c => c.id
  | none => 0

/-- The 19-byte notice record (R13). -/
def Notice.bytes (n : Notice) : List Byte :=
  let src := n.source.bytes
  [src.1, indexByte n.severity,
   BitVec.ofNat 8 (n.globalAddress.isSome.toNat + 2 * n.forced.toNat + 4 * n.previousId.isSome.toNat),
   src.2.1, src.2.2]
    ++ toBytes 2 (n.globalAddress.getD 0).toNat
    ++ [n.repeats, n.claimId, n.previousId.getD 0, BitVec.ofNat 8 n.data.length]
    ++ (n.data ++ List.replicate (8 - n.data.length) 0)

/-! ### Management requests (section 10.3) -/

/-- The payload lengths that R160 accepts for a code; none for a code not in the table. RECIPE_WRITE's
depends on its step-count byte (R54). -/
def lengthAccepted (code : Byte) (payload : List Byte) : Bool :=
  let n := payload.length
  match code.toNat with
  | 0x01 => n == 0
  | 0x02 => n == 2
  | 0x03 => n == 2
  | 0x04 => n == 1
  | 0x10 => n == 18
  | 0x11 => n == 1
  | 0x12 => n == 1
  | 0x13 => n == 1
  | 0x20 => n == 15
  | 0x21 => n == 1
  | 0x30 =>
    match payload with
    | _ :: count :: _ => n == 2 + 10 * count.toNat
    | _ => false
  | 0x31 => n == 1
  | 0x32 => n == 1
  | 0x33 => 1 ≤ n && n ≤ 17
  | 0x34 => n == 1
  | 0x40 => n == 6
  | 0x41 => n == 1
  | 0x42 => n == 3
  | 0x43 => n == 1
  | 0x50 => n == 1
  | 0x51 => n == 0
  | 0x60 => n == 1
  | 0x61 => n == 1
  | 0x62 => n == 2
  | _ => false

end Sys2Proof.Machine
end

