-- ==== Sys2Proof/Machine/Ops.lean ====
section
/-! DEFINITION. The operations the commands share: counters, the Trunk Output Queue, the Notice Queue, route
feedback, record movements and endings, tags, branch events, and the Management Agent's replies. -/

namespace Sys2Proof.Machine

/-! ### Updates by index -/

/-- A route entry replaced. -/
def State.setRoute (s : State) (i : Fin 128) (e : RouteEntry) : State :=
  { s with routes := put s.routes i e }

/-- A branch's port replaced. -/
def State.setBranch (s : State) (b : Fin 4) (p : BranchPort) : State :=
  { s with branches := put s.branches b p }

/-- A record slot replaced. -/
def State.setRecord (s : State) (i : Fin 32) (r : Option Record) : State :=
  { s with records := put s.records i r }

/-- A recipe slot replaced. -/
def State.setRecipe (s : State) (k : Fin 32) (r : Option Recipe) : State :=
  { s with recipes := put s.recipes k r }

/-- A constant block replaced. -/
def State.setBlock (s : State) (k : Fin 32) (bytes : List Byte) : State :=
  { s with blocks := put s.blocks k bytes }

/-- A check profile replaced. -/
def State.setProfile (s : State) (p : Fin 4) (c : CheckProfile) : State :=
  { s with profiles := put s.profiles p c }

/-- A tag record of a port replaced. -/
def BranchPort.setTag (p : BranchPort) (t : Fin 16) (r : TagRecord) : BranchPort :=
  { p with tags := put p.tags t r }

/-- A tag record of a branch replaced. -/
def State.setTag (s : State) (b : Fin 4) (t : Fin 16) (r : TagRecord) : State :=
  s.setBranch b ((s.branch b).setTag t r)

/-- The state of a branch replaced. -/
def State.setBranchState (s : State) (b : Fin 4) (st : BranchState) : State :=
  s.setBranch b { s.branch b with state := st }

/-! ### Counters -/

/-- The trunk counters in their order (R156). -/
inductive TrunkCounter where
  | goodFrames | checkErrors | unknownKind | misaddressed
  | refusedNoRoute | refusedUnreachable | refusedBranchDown | refusedBranchDraining | refusedTagInUse
  | refusedBusy | refusedDenied | refusedMalformed | refusedNoRecipe
  | unsent | completedOk | completedWithFailure
deriving DecidableEq, Repr

/-- The place of a trunk counter in the group, from 0 (R156). -/
def TrunkCounter.index : TrunkCounter → Fin 16
  | .goodFrames => 0
  | .checkErrors => 1
  | .unknownKind => 2
  | .misaddressed => 3
  | .refusedNoRoute => 4
  | .refusedUnreachable => 5
  | .refusedBranchDown => 6
  | .refusedBranchDraining => 7
  | .refusedTagInUse => 8
  | .refusedBusy => 9
  | .refusedDenied => 10
  | .refusedMalformed => 11
  | .refusedNoRecipe => 12
  | .unsent => 13
  | .completedOk => 14
  | .completedWithFailure => 15

/-- The refusal counter of a status (R76, R156). -/
def RefusalStatus.counter : RefusalStatus → TrunkCounter
  | .noRoute => .refusedNoRoute
  | .unreachable => .refusedUnreachable
  | .branchDown => .refusedBranchDown
  | .branchDraining => .refusedBranchDraining
  | .tagInUse => .refusedTagInUse
  | .busy => .refusedBusy
  | .denied => .refusedDenied
  | .malformed => .refusedMalformed
  | .noRecipe => .refusedNoRecipe

/-- The completed counter of an ending (R92). -/
def Ending.counter : Ending → TrunkCounter
  | .ok => .completedOk
  | .timeout | .nodeError _ | .awaitExhausted | .shortData | .branchFault | .aborted | .stepOversize
  | .branchDown => .completedWithFailure

/-- The branch counters in their order (R128). -/
inductive BranchCounter where
  | exchangesIssued | matchedResponses | checkErrors | late | mismatched | timeouts | alertsReceived
  | alertsSuppressed | framesIgnored | unexpected
deriving DecidableEq, Repr

/-- The place of a branch counter in the group, from 0 (R128). -/
def BranchCounter.index : BranchCounter → Fin 10
  | .exchangesIssued => 0
  | .matchedResponses => 1
  | .checkErrors => 2
  | .late => 3
  | .mismatched => 4
  | .timeouts => 5
  | .alertsReceived => 6
  | .alertsSuppressed => 7
  | .framesIgnored => 8
  | .unexpected => 9

/-- A trunk counter raised by one (R156). -/
def State.bumpTrunk (s : State) (c : TrunkCounter) : State :=
  { s with trunkCounters := put s.trunkCounters c.index (satInc (look s.trunkCounters c.index)) }

/-- A counter of a port raised by one (R128). -/
def BranchPort.bump (p : BranchPort) (c : BranchCounter) : BranchPort :=
  { p with counters := put p.counters c.index (satInc (look p.counters c.index)) }

/-- A branch counter raised by one (R128). -/
def State.bumpBranch (s : State) (b : Fin 4) (c : BranchCounter) : State :=
  s.setBranch b ((s.branch b).bump c)

/-! ### The Trunk Output Queue -/

/-- A frame joins at the tail; an IDLE transmitter begins it at once (R147, R149). -/
def State.join (s : State) (place : Place) (f : TrunkFrame) : State :=
  { s with
    toq := s.toq ++ [⟨f, place⟩]
    tx := match s.tx with
      | .idle => .sending
      | .sending => .sending
      | .held finishing => .held finishing }

/-- A refusal or a BUSY reply: it takes a free pool place, or is dropped and counted unsent (R148). -/
def State.joinOrDrop (s : State) (f : TrunkFrame) : State :=
  if s.poolFree then s.join .pool f else s.bumpTrunk .unsent

/-! ### The Notice Queue -/

/-- The ATTENTION frame with the values of this moment (R8, R142). -/
def State.attentionFrame (s : State) : TrunkFrame :=
  buildTrunk kindAttention s.ownAddress 0 0
    [BitVec.ofNat 8 s.callingCount, BitVec.ofNat 8 s.callingSeverity]

/-- One attention request to the Trunk Port (R142, R143). -/
def State.requestAttention (s : State) : State :=
  if s.attentionPending then s
  else if s.poolFree then s.join .pool s.attentionFrame
  else { s with attentionPending := true }

/-- The attention condition judged: ATTN# follows it, and where it becomes true a request is made
(R141, R142). -/
def State.judgeAttention (s : State) : State :=
  if s.attentionCondition then
    if s.attn then s else { s with attn := true }.requestAttention
  else { s with attn := false }

/-- The notice held after an arrival is coalesced into it (R133). -/
def Notice.coalesce (arrival held : Notice) : Notice :=
  { held with
    repeats := satInc held.repeats
    data := arrival.data
    globalAddress := arrival.globalAddress
    severity := max held.severity arrival.severity
    forced := held.forced || arrival.forced }

/-- The lowest severity among the UNCLAIMED notices, if there is one (R134). -/
def lowestUnclaimed (ns : List Notice) : Option (Fin 8) :=
  ((ns.filter Notice.unclaimed).map Notice.severity).min?

/-- The place of the oldest UNCLAIMED notice of the lowest severity, where that is below the arrival's
(R134, second step). -/
def replaceable (ns : List Notice) (severity : Fin 8) : Option Nat :=
  match lowestUnclaimed ns with
  | some low =>
    if low < severity then ns.findIdx? fun n => n.unclaimed && n.severity == low else none
  | none => none

/-- The Notice Queue takes an arrival (R133, R134). -/
def State.arrive (s : State) (n : Notice) : State :=
  match s.notices.findIdx? fun m => m.unclaimed && m.source == n.source with
  | some i => { s with notices := s.notices.modify i n.coalesce }
  | none =>
    if s.notices.length < Config.noticePlaces then { s with notices := s.notices ++ [n] }
    else
      match replaceable s.notices n.severity with
      | some i => { s with notices := s.notices.eraseIdx i ++ [n], lost := satInc s.lost }
      | none => { s with lost := satInc s.lost }

/-- A notice is offered: its arrival, and the attention condition judged after it (R132 to R134, R141). -/
def State.post (s : State) (n : Notice) : State := (s.arrive n).judgeAttention

/-- A new notice: repeat count 1, UNCLAIMED, no previous claim id (R132). -/
def newNotice (source : NoticeSource) (severity : Fin 8) (globalAddress : Option Address)
    (data : List Byte) (forced : Bool) : Notice :=
  { source, severity, globalAddress, repeats := 1, data, forced, claim := none, previousId := none }

/-- The notice of a quarantined route (R41). -/
def quarantineNotice (i : Fin 128) (address : Address) : Notice :=
  newNotice (.routeQuarantined i) 5 (some address) [] false

/-- The notice of a faulted branch (R112). -/
def faultNotice (b : Fin 4) : Notice := newNotice (.branchFaulted b) 6 none [] false

/-- The notice of a drain that ended by itself (R110). -/
def drainedNotice (b : Fin 4) : Notice := newNotice (.branchDrained b) 2 none [] false

/-- The notice of a drain ended by its deadline (R111). -/
def forcedDrainNotice (b : Fin 4) : Notice := newNotice (.branchDrained b) 4 none [] true

/-! ### The Route Table -/

/-- The forward lookup (R29). -/
def State.forwardLookup (s : State) (address : Address) : Option (Fin 128 × LiveRoute) :=
  (List.finRange 128).findSome? fun i =>
    match (s.route i).live with
    | some r => if r.config.globalAddress = address then some (i, r) else none
    | none => none

/-- The reverse lookup (R30). -/
def State.reverseLookup (s : State) (b : Fin 4) (localAddress : Byte) : Option (Fin 128 × LiveRoute) :=
  (List.finRange 128).findSome? fun i =>
    match (s.route i).live with
    | some r => if r.config.branch = b ∧ r.config.localAddress = localAddress then some (i, r) else none
    | none => none

/-- The entry that accepts a report for a snapshot, if it does: non-EMPTY, with the snapshot's generation
(R38). -/
def State.accepting (s : State) (snap : Snapshot) : Option LiveRoute :=
  if (s.route snap.routeIndex).generation = snap.routeGeneration then (s.route snap.routeIndex).live
  else none

/-- A live entry's state and count replaced; the generation stays. -/
def State.setLive (s : State) (i : Fin 128) (r : LiveRoute) : State :=
  s.setRoute i { s.route i with live := some r }

/-- A matched response is reported (R39). -/
def State.reportMatched (s : State) (snap : Snapshot) : State :=
  match s.accepting snap with
  | some r => s.setLive snap.routeIndex { r with failures := 0 }
  | none => s

/-- A timeout ending is reported; it may quarantine the route and post the notice (R40, R41). -/
def State.reportTimeout (s : State) (snap : Snapshot) : State :=
  match s.accepting snap with
  | some r =>
    let count := satInc r.failures
    if !r.quarantined && r.config.quarantineLimit != 0 && r.config.quarantineLimit.toNat ≤ count.toNat then
      (s.setLive snap.routeIndex { r with failures := count, quarantined := true }).post
        (quarantineNotice snap.routeIndex r.config.globalAddress)
    else s.setLive snap.routeIndex { r with failures := count }
  | none => s

/-! ### Recipes -/

/-- DIRECT: a one-step recipe that is not held in the Recipe Store (R59). -/
def directRecipe (op : Op) : Recipe :=
  { steps := [.issue op none 0 .all .all], neededLength := 0, captureTotal := 0 }

/-- The recipe that a recipe field names as the Recipe Store stands; none for an EMPTY slot (R46, R73). -/
def State.recipeOf (s : State) (choice : Option (Fin 32)) (op : Op) : Option Recipe :=
  match choice with
  | none => some (directRecipe op)
  | some k => s.recipe k

/-- The steps of the recipe a record executes (R46). -/
def State.stepsOf (s : State) (r : Record) : List Step :=
  match s.recipeOf r.snapshot.recipe r.op with
  | some recipe => recipe.steps
  | none => []

/-- The step a record stands at. -/
def State.stepOf (s : State) (r : Record) : Option Step := (s.stepsOf r)[r.step]?

/-- The request slice of an ISSUE step (R61). -/
def slicePayload (payload : List Byte) (offset : Nat) : Extent → List Byte
  | .bytes n => (payload.drop offset).take n.val
  | .all => payload.drop offset

/-- The bytes of the block a step names, or none (R61). -/
def State.blockBytes (s : State) : Option (Fin 32) → List Byte
  | some k => s.block k
  | none => []

/-! ### The Issue Queue -/

/-- A record joins at the tail of its class (R114). -/
def BranchPort.enqueue (p : BranchPort) (urgent : Bool) (slot : Fin 32) : BranchPort :=
  if urgent then { p with urgentQueue := p.urgentQueue ++ [slot] }
  else { p with normalQueue := p.normalQueue ++ [slot] }

/-- A record leaves the queue from wherever it stands (R96, R114). -/
def BranchPort.dequeue (p : BranchPort) (slot : Fin 32) : BranchPort :=
  { p with urgentQueue := p.urgentQueue.filter (· != slot), normalQueue := p.normalQueue.filter (· != slot) }

/-- The record becomes QUEUED and joins its branch's Issue Queue (R84, R114). -/
def State.queueRecord (s : State) (slot : Fin 32) (r : Record) : State :=
  (s.setRecord slot (some { r with state := .queued })).setBranch r.snapshot.branch
    ((s.branch r.snapshot.branch).enqueue r.urgent slot)

/-! ### Tags -/

/-- An IN_USE tag enters COOLING with its profile and local address, for the branch's cool interval
(R119). -/
def BranchPort.coolTag (now : Time) (p : BranchPort) (t : Fin 16) : BranchPort :=
  match p.tag t with
  | .inUse profile localAddress =>
    p.setTag t (.cooling profile localAddress (now + p.settings.coolInterval * Config.unitsPerMs))
  | .free => p
  | .cooling _ _ _ => p

/-- A tag of a branch enters COOLING (R119). -/
def State.coolTag (s : State) (b : Fin 4) (t : Fin 16) : State :=
  s.setBranch b ((s.branch b).coolTag s.now t)

/-! ### Endings -/

/-- The failing-step byte of an ending (R5, R93). -/
def failingStep (e : Ending) (step : Nat) : Byte :=
  match e with
  | .ok => 0xFF
  | .timeout | .nodeError _ | .awaitExhausted | .shortData | .branchFault | .aborted | .stepOversize
  | .branchDown => BitVec.ofNat 8 step

/-- The RESPONSE of a record's ending (R93). -/
def responseFrame (r : Record) (e : Ending) : TrunkFrame :=
  buildTrunk kindResponse r.globalAddress (BitVec.ofNat 8 r.trunkTag.val) e.code
    (responsePayload (failingStep e r.step) e.nodeCode r.accumulator)

/-- The timeout report that an ending makes (R92, item 4). -/
def State.reportEnding (s : State) (snap : Snapshot) (e : Ending) : State :=
  match e with
  | .timeout => s.reportTimeout snap
  | .ok | .nodeError _ | .awaitExhausted | .shortData | .branchFault | .aborted | .stepOversize
  | .branchDown => s

/-- Items 1 to 4 of R92: the RESPONSE in its reserved place, the completed counter, the record freed, the
timeout report. -/
def State.endRecord (s : State) (slot : Fin 32) (r : Record) (e : Ending) : State :=
  (((s.join .reserved (responseFrame r e)).bumpTrunk e.counter).setRecord slot none).reportEnding r.snapshot e

/-- A DRAINING branch left with no live record becomes DISABLED and posts the unforced notice (R110). -/
def State.checkDrained (s : State) (b : Fin 4) : State :=
  if (s.branch b).state.isDraining && s.liveOn b == 0 then
    (s.setBranchState b .disabled).post (drainedNotice b)
  else s

/-- A transaction ends by completion, failure, timeout or abort (R92). -/
def State.endTransaction (s : State) (slot : Fin 32) (r : Record) (e : Ending) : State :=
  (s.endRecord slot r e).checkDrained r.snapshot.branch

/-- What is undone before an ending from outside: a QUEUED record leaves the Issue Queue, an ISSUED
record's tag cools; the timers sit in the record (R94, R96). -/
def State.undo (s : State) (slot : Fin 32) (r : Record) : State :=
  match r.state with
  | .queued => s.setBranch r.snapshot.branch ((s.branch r.snapshot.branch).dequeue slot)
  | .issued t _ => s.coolTag r.snapshot.branch t
  | .spacing _ | .paused _ => s

/-- A branch event ends the record of a slot, where it is a record of the branch (R94). -/
def State.endSlotOf (b : Fin 4) (e : Ending) (s : State) (slot : Fin 32) : State :=
  match s.record slot with
  | some r => if r.snapshot.branch = b then (s.undo slot r).endRecord slot r e else s
  | none => s

/-- A branch event ends every live record of the branch, in slot order (R94). -/
def State.endBranchRecords (s : State) (b : Fin 4) (e : Ending) : State :=
  (List.finRange 32).foldl (State.endSlotOf b e) s

/-- The branch faults (R112). -/
def State.faultBranch (s : State) (b : Fin 4) : State :=
  ((s.endBranchRecords b .branchFault).setBranchState b .faulted).post (faultNotice b)

/-! ### Moving through the recipe -/

/-- A record takes up a step: QUEUED for ISSUE, QUEUED with attempts 0 for AWAIT, PAUSED for PAUSE
(R78, R86). -/
def State.takeUp (s : State) (slot : Fin 32) (r : Record) (step : Step) : State :=
  match step with
  | .issue _ _ _ _ _ => s.queueRecord slot r
  | .await _ _ _ _ _ _ _ => s.queueRecord slot { r with attempts := 0 }
  | .pause duration => s.setRecord slot (some { r with state := .paused (s.now + duration.toNat) })

/-- A record advances, or completes OK at its last step (R86). -/
def State.advance (s : State) (slot : Fin 32) (r : Record) : State :=
  match (s.stepsOf r)[r.step + 1]? with
  | some step => s.takeUp slot { r with step := r.step + 1 } step
  | none => s.endTransaction slot r .ok

/-- What judging an answer gives (section 4.9). -/
inductive Judgement where
  | success (captured : List Byte)
  | again (spacing : BitVec 16)
  | failure (e : Ending)
deriving DecidableEq, Repr

/-- The bytes an ISSUE step captures of an answer, none when the answer is too short (R65). -/
def capture? (payload : List Byte) : Extent → Option (List Byte)
  | .bytes n => if payload.length < n.val then none else some (payload.take n.val)
  | .all => some payload

/-- A matched answer judged against a step (R64 to R67). A record has no answer at a PAUSE step, nor at a
step its recipe lacks (log entry 13). -/
def judgeAnswer (step : Option Step) (accumulated attempts : Nat) (status : Byte) (payload : List Byte) :
    Judgement :=
  if status ≠ 0 then .failure (.nodeError status)
  else
    match step with
    | some (.issue _ _ _ _ capture) =>
      match capture? payload capture with
      | none => .failure .shortData
      | some bytes =>
        if Config.maxData < accumulated + bytes.length then .failure .stepOversize else .success bytes
    | some (.await _ _ index mask expected limit spacing) =>
      match payload[index.val]? with
      | none => .failure .shortData
      | some byte =>
        if byte &&& mask = expected then .success []
        else if attempts + 1 < limit.toNat then .again spacing
        else .failure .awaitExhausted
    | some (.pause _) => .success []
    | none => .success []

/-- An ISSUED record takes its matched answer; its tag is FREE already (R87). -/
def State.takeAnswer (s : State) (slot : Fin 32) (r : Record) (status : Byte) (payload : List Byte) : State :=
  let s := s.reportMatched r.snapshot
  match judgeAnswer (s.stepOf r) r.accumulator.length r.attempts status payload with
  | .success bytes => s.advance slot { r with accumulator := r.accumulator ++ bytes }
  | .again spacing =>
    s.setRecord slot
      (some { r with attempts := r.attempts + 1, state := .spacing (s.now + spacing.toNat) })
  | .failure e => s.endTransaction slot r e

/-! ### The Management Agent -/

/-- With no request in execution the Agent takes the head of its input queue if a pool place is free, and
otherwise waits (R159). -/
def State.agentNext (s : State) : State :=
  match s.inq with
  | [] => { s with agent := .idle }
  | q :: rest =>
    if ({ s with agent := .idle } : State).poolFree then { s with inq := rest, agent := .executing q }
    else { s with agent := .waiting }

/-- The reply to the request in execution fills the reservation and joins the tail; then the Agent goes on
(R7, R159, R161). -/
def State.answer (s : State) (result : Result) (payload : List Byte) : State :=
  match s.agent with
  | .executing q =>
    State.agentNext
      ({ s with agent := .idle }.join .pool
        (buildTrunk kindManageReply s.ownAddress q.tag result.code payload))
  | .idle => s
  | .waiting => s

/-- The Agent carries out the request in execution, where it has this code (R160, R161). Where it has not,
the event cannot occur and nothing changes (log entry 3). -/
def State.carryOut (s : State) (code : Byte) (act : List Byte → State → State) : State :=
  if s.resetLow then s
  else
    match s.agent with
    | .executing q =>
      if q.code = code then
        if lengthAccepted code q.payload then act q.payload s else s.answer .badRequest []
      else s
    | .idle => s
    | .waiting => s

/-- A meaning that does nothing while RESET# is low (R69, R129, R145, R164; log entry 4). -/
def State.running (s : State) (act : State → State) : State := if s.resetLow then s else act s

/-- The time base moved to a deadline that has come (log entry 1). -/
def State.reach (s : State) (deadline : Time) : State := { s with now := max s.now deadline }

end Sys2Proof.Machine
end

