-- ==== Sys2Proof/Machine/Tables.lean ====
section
/-! DEFINITION. The management requests of the Route Table (R32 to R36), the Check Unit (R20 to R25) and the
Recipe Store (R47, R48, R54 to R57). -/

namespace Sys2Proof.Machine

/-! ### Routes -/

/-- A non-EMPTY entry at another index that a test accepts (R32, tests 4 and 5). -/
def State.otherRoute (s : State) (i : Fin 128) (p : RouteConfig → Bool) : Bool :=
  (List.finRange 128).any fun j =>
    j != i &&
      match (s.route j).live with
      | some r => p r.config
      | none => false

/-- Tests 3 to 5 of R32. -/
def State.routeConflict (s : State) (i : Fin 128) (c : RouteConfig) : Bool :=
  c.globalAddress == s.ownAddress
    || s.otherRoute i (fun d => d.globalAddress == c.globalAddress)
    || s.otherRoute i (fun d => d.branch == c.branch && d.localAddress == c.localAddress)

/-- ROUTE_WRITE's effect (R32, R33). -/
def routeWrite (payload : List Byte) (s : State) : State :=
  match payload with
  | index :: record =>
    match index? 128 index, readRoute record with
    | some i, some c =>
      if s.routeConflict i c then s.answer .conflict []
      else
        (s.setRoute i { generation := (s.route i).generation + 1
                        live := some { config := c, quarantined := false, failures := 0 } }).answer .done
          [(s.route i).generation + 1]
    | _, _ => s.answer .badValue []
  | [] => s

/-- A request on one index of a table: BAD_VALUE where it is out of range. -/
def onIndex (n : Nat) (act : Fin n → State → State) (payload : List Byte) (s : State) : State :=
  match payload with
  | [b] =>
    match index? n b with
    | some i => act i s
    | none => s.answer .badValue []
  | _ => s

/-- ROUTE_READ's effect (R34). -/
def routeRead (i : Fin 128) (s : State) : State := s.answer .done (s.route i).bytes

/-- ROUTE_DELETE's effect (R35). -/
def routeDelete (i : Fin 128) (s : State) : State :=
  match (s.route i).live with
  | none => s.answer .notFound []
  | some _ =>
    (s.setRoute i { generation := (s.route i).generation + 1, live := none }).answer .done
      [(s.route i).generation + 1]

/-- ROUTE_REINSTATE's effect (R36). -/
def routeReinstate (i : Fin 128) (s : State) : State :=
  match (s.route i).live with
  | none => s.answer .notFound []
  | some r =>
    (s.setLive i { r with quarantined := false, failures := 0 }).answer .done
      [if r.quarantined then 2 else 1]

/-- ROUTE_WRITE (R33). -/
def execRouteWrite (s : State) : StepResult := .next (s.carryOut 0x10 routeWrite)

/-- ROUTE_READ (R34). -/
def execRouteRead (s : State) : StepResult := .next (s.carryOut 0x11 (onIndex 128 routeRead))

/-- ROUTE_DELETE (R35). -/
def execRouteDelete (s : State) : StepResult := .next (s.carryOut 0x12 (onIndex 128 routeDelete))

/-- ROUTE_REINSTATE (R36). -/
def execRouteReinstate (s : State) : StepResult := .next (s.carryOut 0x13 (onIndex 128 routeReinstate))

/-! ### Check profiles -/

/-- PROFILE_WRITE's effect (R21, R22). -/
def profileWrite (payload : List Byte) (s : State) : State :=
  match payload with
  | index :: record =>
    match index? 4 index, readProfile record with
    | some p, some c => if s.profileInUse p then s.answer .inUse [] else (s.setProfile p c).answer .done []
    | _, _ => s.answer .badValue []
  | [] => s

/-- PROFILE_READ's effect (R25). -/
def profileRead (p : Fin 4) (s : State) : State :=
  s.answer .done (indexByte p :: (s.profile p).bytes
    ++ [BitVec.ofNat 8 (s.profileRecords p), BitVec.ofNat 8 (s.profileCooling p)])

/-- PROFILE_WRITE (R22). -/
def execProfileWrite (s : State) : StepResult := .next (s.carryOut 0x20 profileWrite)

/-- PROFILE_READ (R25). -/
def execProfileRead (s : State) : StepResult := .next (s.carryOut 0x21 (onIndex 4 profileRead))

/-! ### Recipes and constant blocks -/

/-- RECIPE_WRITE's effect (R54, R55). -/
def recipeWrite (payload : List Byte) (s : State) : State :=
  match payload with
  | index :: count :: records =>
    match index? 32 index with
    | none => s.answer .badValue [0xFF]
    | some k =>
      if count = 0 ∨ 9 ≤ count.toNat then s.answer .badValue [0xFF]
      else
        match loadSteps (stepRecords count.toNat records) 0 0 with
        | .error i => s.answer .badValue [BitVec.ofNat 8 i]
        | .ok steps =>
          if s.recipeInUse k then s.answer .inUse []
          else
            (s.setRecipe k (some (loadedRecipe steps))).answer .done
              [BitVec.ofNat 8 (neededLength steps), BitVec.ofNat 8 (captureTotal steps)]
  | _ => s

/-- The RECIPE_READ reply for a slot (R56). -/
def State.recipeRecord (s : State) (k : Fin 32) : List Byte :=
  match s.recipe k with
  | none => [indexByte k, 0, 0, 0, BitVec.ofNat 8 (s.recipeRecords k), 0]
  | some r =>
    [indexByte k, 1, BitVec.ofNat 8 r.neededLength, BitVec.ofNat 8 r.captureTotal,
     BitVec.ofNat 8 (s.recipeRecords k), BitVec.ofNat 8 r.steps.length] ++ r.steps.flatMap Step.bytes

/-- RECIPE_READ's effect (R56). -/
def recipeRead (k : Fin 32) (s : State) : State := s.answer .done (s.recipeRecord k)

/-- RECIPE_CLEAR's effect (R56). -/
def recipeClear (k : Fin 32) (s : State) : State :=
  match s.recipe k with
  | none => s.answer .notFound []
  | some _ => if s.recipeInUse k then s.answer .inUse [] else (s.setRecipe k none).answer .done []

/-- CONST_WRITE's effect (R47). -/
def constWrite (payload : List Byte) (s : State) : State :=
  match payload with
  | index :: content =>
    match index? 32 index with
    | some k => (s.setBlock k content).answer .done []
    | none => s.answer .badValue []
  | [] => s

/-- CONST_READ's effect (R48). -/
def constRead (k : Fin 32) (s : State) : State :=
  s.answer .done (indexByte k :: BitVec.ofNat 8 (s.block k).length :: s.block k)

/-- RECIPE_WRITE (R55). -/
def execRecipeWrite (s : State) : StepResult := .next (s.carryOut 0x30 recipeWrite)

/-- RECIPE_READ (R56). -/
def execRecipeRead (s : State) : StepResult := .next (s.carryOut 0x31 (onIndex 32 recipeRead))

/-- RECIPE_CLEAR (R56). -/
def execRecipeClear (s : State) : StepResult := .next (s.carryOut 0x32 (onIndex 32 recipeClear))

/-- CONST_WRITE (R47). -/
def execConstWrite (s : State) : StepResult := .next (s.carryOut 0x33 constWrite)

/-- CONST_READ (R48). -/
def execConstRead (s : State) : StepResult := .next (s.carryOut 0x34 (onIndex 32 constRead))

end Sys2Proof.Machine
end

