-- ==== Sys2Proof/Machine/BranchControl.lean ====
section
/-! DEFINITION. The branch requests (R105, R107 to R109) and the transaction requests (R96, R99) of the
Management Agent. -/

namespace Sys2Proof.Machine

/-- The settings that bytes 2 to 6 of a BRANCH_CONFIG carry, where each is in range (R105, test 2). -/
def readSettings (window cool fault profile severity : Byte) : Option Settings := do
  guard (1 ≤ window.toNat && window.toNat ≤ 4 && cool != 0 && 1 ≤ fault.toNat && fault.toNat ≤ 15)
  let defaultProfile ← index? 4 profile
  let unmappedSeverity ← index? 8 severity
  some { window := window.toNat, coolInterval := cool.toNat, faultLimit := fault.toNat, defaultProfile
         unmappedSeverity }

/-- BRANCH_CONFIG's effect (R105). -/
def branchConfig (payload : List Byte) (s : State) : State :=
  match payload with
  | [branch, window, cool, fault, profile, severity] =>
    match index? 4 branch, readSettings window cool fault profile severity with
    | some b, some settings =>
      if (s.branch b).state.working then s.answer .badState []
      else (s.setBranch b { s.branch b with settings := settings }).answer .done []
    | _, _ => s.answer .badValue []
  | _ => s

/-- BRANCH_ENABLE's effect (R107). -/
def branchEnable (b : Fin 4) (s : State) : State :=
  if (s.branch b).state.working then s.answer .badState []
  else (s.setBranch b { s.branch b with state := .enabled, consecutive := 0 }).answer .done []

/-- BRANCH_DISABLE's effect (R108). -/
def branchDisable (b : Fin 4) (s : State) : State :=
  if (s.branch b).state.working then
    ((s.endBranchRecords b .branchDown).setBranchState b .disabled).answer .done []
  else s.answer .done []

/-- BRANCH_DRAIN's effect (R109). -/
def branchDrain (payload : List Byte) (s : State) : State :=
  match payload with
  | [branch, d1, d0] =>
    match index? 4 branch with
    | none => s.answer .badValue []
    | some b =>
      if d1 ++ d0 = (0 : BitVec 16) then s.answer .badValue []
      else
        match (s.branch b).state with
        | .enabled =>
          State.answer
            ((s.setBranchState b (.draining (s.now + (d1 ++ d0).toNat * Config.unitsPerMs))).checkDrained b)
            .accepted []
        | .disabled => s.answer .done []
        | .draining _ => s.answer .badState []
        | .faulted => s.answer .badState []
  | _ => s

/-- BRANCH_CONFIG (R105). -/
def execBranchConfig (s : State) : StepResult := .next (s.carryOut 0x40 branchConfig)

/-- BRANCH_ENABLE (R107). -/
def execBranchEnable (s : State) : StepResult := .next (s.carryOut 0x41 (onIndex 4 branchEnable))

/-- BRANCH_DRAIN (R109). -/
def execBranchDrain (s : State) : StepResult := .next (s.carryOut 0x42 branchDrain)

/-- BRANCH_DISABLE (R108). -/
def execBranchDisable (s : State) : StepResult := .next (s.carryOut 0x43 (onIndex 4 branchDisable))

/-- TRANSACTION_ABORT's effect (R96). -/
def transactionAbort (payload : List Byte) (s : State) : State :=
  match payload with
  | [tag] =>
    if 63 < tag.toNat then s.answer .badValue []
    else
      match s.slotOfTag tag with
      | none => s.answer .notFound []
      | some slot =>
        match s.record slot with
        | none => s
        | some r =>
          ((s.undo slot r).endTransaction slot r .aborted).answer .done [BitVec.ofNat 8 r.state.code]
  | _ => s

/-- The PENDING_READ item of a live record (R99). -/
def Record.pendingItem (r : Record) : List Byte :=
  [BitVec.ofNat 8 r.trunkTag.val, BitVec.ofNat 8 (r.state.code * 16 + r.snapshot.branch.val),
   BitVec.ofNat 8 (r.step * 16 + r.retries)]

/-- The items of all live records, in slot order (R99). -/
def State.pendingItems (s : State) : List Byte :=
  (List.finRange 32).flatMap fun i =>
    match s.record i with
    | some r => r.pendingItem
    | none => []

/-- TRANSACTION_ABORT (R96). -/
def execTransactionAbort (s : State) : StepResult := .next (s.carryOut 0x50 transactionAbort)

/-- PENDING_READ (R99). -/
def execPendingRead (s : State) : StepResult :=
  .next (s.carryOut 0x51 fun _ s => s.answer .done s.pendingItems)

end Sys2Proof.Machine
end

