-- ==== Sys2Proof/Machine/BranchTraffic.lean ====
section
/-! DEFINITION. A branch's traffic: the receiver (R123 to R127), the alert path (R131), the scheduler and the
transmitter (R115 to R117), and the timers (R88, R90, R91, R111, R120). -/

namespace Sys2Proof.Machine

/-! ### The receiver -/

/-- A bad frame: counted, and the branch faults where the consecutive count reaches its limit (R124,
R125). -/
def State.takeBad (s : State) (b : Fin 4) : State :=
  let p := (s.branch b).bump .checkErrors
  let s := s.setBranch b { p with consecutive := p.consecutive + 1 }
  if (s.branch b).consecutive = (s.branch b).settings.faultLimit then s.faultBranch b else s

/-- A good frame sets the consecutive count to 0 (R124, R125). -/
def State.markGood (s : State) (b : Fin 4) : State := s.setBranch b { s.branch b with consecutive := 0 }

/-- A good RESPONSE with a legal local address (R126). -/
def State.takeResponse (s : State) (b : Fin 4) (localAddress : Byte) (tag : Fin 16) (status : Byte)
    (payload : List Byte) : State :=
  match (s.branch b).tag tag with
  | .inUse _ expected =>
    if localAddress = expected then
      let freed := (s.bumpBranch b .matchedResponses).setTag b tag .free
      match s.holderOf b tag with
      | some slot =>
        match s.record slot with
        | some r => freed.takeAnswer slot r status payload
        | none => freed
      | none => freed
    else s.bumpBranch b .mismatched
  | .free => s.bumpBranch b .late
  | .cooling _ _ _ => s.bumpBranch b .late

/-- The alert path (R131): a severity of 0 suppresses the alert, another offers a NODE_ALERT notice. -/
def State.alertPath (s : State) (b : Fin 4) (localAddress : Byte) (payload : List Byte) : State :=
  let found := s.reverseLookup b localAddress
  let severity :=
    match found with
    | some (_, r) => r.config.alertSeverity
    | none => (s.branch b).settings.unmappedSeverity
  let address := found.map fun ir => ir.2.config.globalAddress
  if severity = 0 then s.bumpBranch b .alertsSuppressed
  else s.post (newNotice (.nodeAlert b localAddress) severity address (payload.take 8) false)

/-- A good frame is classified on its header (R10, R126). -/
def State.classifyBranch (s : State) (b : Fin 4) (f : BranchFrame) : State :=
  if !localAddressOk f.localAddress then s.bumpBranch b .unexpected
  else if f.kind = 2 then
    match index? 16 f.tag with
    | some t => s.takeResponse b f.localAddress t f.opOrStatus f.payload
    | none => s.bumpBranch b .unexpected
  else if f.kind = 3 then (s.bumpBranch b .alertsReceived).alertPath b f.localAddress f.payload
  else s.bumpBranch b .unexpected

/-- A frame taken by the receiver: ignored on a DISABLED or FAULTED branch, otherwise judged (R123, R124).
`frame` is the good frame that was received, `none` for a bad one. -/
def State.receiveBranch (s : State) (b : Fin 4) (frame : Option BranchFrame) : State :=
  if (s.branch b).state.working then
    match frame with
    | some f => (s.markGood b).classifyBranch b f
    | none => s.takeBad b
  else s.bumpBranch b .framesIgnored

/-- A frame given by its fields: good, unless its payload is longer than a good frame's (R9; log
entry 10). -/
def goodFrame (f : BranchFrame) : Option BranchFrame := if f.payload.length ≤ 64 then some f else none

/-- BRANCH_FRAME (R124). -/
def execBranchFrame (b : Fin 4) (content : List Byte) (s : State) : StepResult :=
  .next (s.running fun s => s.receiveBranch b (readBranch (s.branch b) s.profiles content))

/-- BRANCH_RESPONSE (R126). -/
def execBranchResponse (b : Fin 4) (localAddress tag status : Byte) (payload : List Byte) (s : State) :
    StepResult :=
  .next (s.running fun s => s.receiveBranch b (goodFrame ⟨2, localAddress, tag, status, payload⟩))

/-- ALERT (R127). Its tag and op-or-status bytes are ignored (R10). -/
def execAlert (b : Fin 4) (localAddress : Byte) (payload : List Byte) (s : State) : StepResult :=
  .next (s.running fun s => s.receiveBranch b (goodFrame ⟨3, localAddress, 0, 0, payload⟩))

/-! ### The scheduler and the transmitter -/

/-- The op of a step that sends a frame, and its branch payload; none for a PAUSE (R60, R61). -/
def State.buildStep (s : State) (r : Record) : Step → Option (Op × List Byte)
  | .issue op block offset slice _ => some (op, s.blockBytes block ++ slicePayload r.payload offset.val slice)
  | .await op block _ _ _ _ _ => some (op, s.blockBytes block)
  | .pause _ => none

/-- Only an ISSUE payload is tested for length (R62). -/
def Step.tooLong (payload : List Byte) : Step → Bool
  | .issue _ _ _ _ _ => Config.maxData < payload.length
  | .await _ _ _ _ _ _ _ => false
  | .pause _ => false

/-- The exchange is issued: the tag IN_USE, the record ISSUED, the frame handed to the transmitter
(R116). -/
def State.issue (s : State) (b : Fin 4) (slot : Fin 32) (r : Record) (t : Fin 16) (op : Op)
    (payload : List Byte) : State :=
  let port := (s.branch b).setTag t (.inUse r.snapshot.profile r.snapshot.localAddress)
  ((s.setRecord slot (some { r with state := .issued t none })).setBranch b
    { port with tx := some (buildRequest (s.profile r.snapshot.profile) r.snapshot.localAddress t op payload) }
  ).bumpBranch b .exchangesIssued

/-- The record at the head of the Issue Queue is taken and its step's frame built (R116). A QUEUED record
stands at a step that sends a frame; where none does, nothing is taken (log entry 13). -/
def State.scheduleRecord (s : State) (b : Fin 4) (slot : Fin 32) (r : Record) : State :=
  match s.stepOf r, (s.branch b).freeTag with
  | some step, some t =>
    match s.buildStep r step with
    | some (op, payload) =>
      let taken := s.setBranch b ((s.branch b).dequeue slot)
      if step.tooLong payload then taken.endTransaction slot r .stepOversize
      else taken.issue b slot r t op payload
    | none => s
  | _, _ => s

/-- SCHEDULER_ISSUE (R115, R116): one record is taken where the conditions hold. -/
def execSchedulerIssue (b : Fin 4) (s : State) : StepResult :=
  .next (s.running fun s =>
    if s.canIssue b then
      match (s.branch b).issueQueue with
      | slot :: _ =>
        match s.record slot with
        | some r => s.scheduleRecord b slot r
        | none => s
      | [] => s
    else s)

/-- The exchange timer of a tag starts, where the tag is still IN_USE for its record (R117, R122). -/
def State.startTimer (s : State) (b : Fin 4) (t : Fin 16) : State :=
  if ((s.branch b).tag t).isInUse then
    match s.holderOf b t with
    | some slot =>
      match s.record slot with
      | some r =>
        s.setRecord slot (some { r with state := .issued t (some (s.now + r.snapshot.timeout.toNat)) })
      | none => s
    | none => s
  else s

/-- BRANCH_TRANSMISSION_END (R117). -/
def execBranchTransmissionEnd (b : Fin 4) (s : State) : StepResult :=
  .next (s.running fun s =>
    match (s.branch b).tx with
    | some f => (s.setBranch b { s.branch b with tx := none }).startTimer b f.tag
    | none => s)

/-! ### The timers -/

/-- The record of a slot takes the timeout of its exchange (R88). -/
def State.timeOut (s : State) (slot : Fin 32) (r : Record) : State :=
  if r.retries < r.snapshot.retryLimit.val then s.queueRecord slot { r with retries := r.retries + 1 }
  else s.endTransaction slot r .timeout

/-- EXCHANGE_TIMER_EXPIRY (R88, R122): the timer of a tag that runs. -/
def execExchangeTimerExpiry (b : Fin 4) (t : Fin 16) (s : State) : StepResult :=
  .next (s.running fun s =>
    match s.holderOf b t with
    | some slot =>
      match s.record slot with
      | some r =>
        match r.state with
        | .issued _ (some deadline) =>
          (((s.reach deadline).bumpBranch b .timeouts).coolTag b t).timeOut slot r
        | .issued _ none => s
        | .queued => s
        | .spacing _ => s
        | .paused _ => s
      | none => s
    | none => s)

/-- SPACING_EXPIRY (R90). -/
def execSpacingExpiry (slot : Fin 32) (s : State) : StepResult :=
  .next (s.running fun s =>
    match s.record slot with
    | some r =>
      match r.state with
      | .spacing deadline => (s.reach deadline).queueRecord slot r
      | .queued => s
      | .issued _ _ => s
      | .paused _ => s
    | none => s)

/-- PAUSE_EXPIRY (R91). -/
def execPauseExpiry (slot : Fin 32) (s : State) : StepResult :=
  .next (s.running fun s =>
    match s.record slot with
    | some r =>
      match r.state with
      | .paused deadline => (s.reach deadline).advance slot r
      | .queued => s
      | .issued _ _ => s
      | .spacing _ => s
    | none => s)

/-- COOL_DEADLINE_EXPIRY (R120). -/
def execCoolDeadlineExpiry (b : Fin 4) (t : Fin 16) (s : State) : StepResult :=
  .next (s.running fun s =>
    match (s.branch b).tag t with
    | .cooling _ _ deadline => (s.reach deadline).setTag b t .free
    | .free => s
    | .inUse _ _ => s)

/-- DRAIN_DEADLINE_EXPIRY (R111). -/
def execDrainDeadlineExpiry (b : Fin 4) (s : State) : StepResult :=
  .next (s.running fun s =>
    match (s.branch b).state with
    | .draining deadline =>
      ((((s.reach deadline).endBranchRecords b .aborted).setBranchState b .disabled).post
        (forcedDrainNotice b))
    | .disabled => s
    | .enabled => s
    | .faulted => s)

end Sys2Proof.Machine
end

