-- ==== Sys2Proof/Machine/Management.lean ====
section
/-! DEFINITION. The Management Agent's own requests: an unknown code (R160), STATUS_READ (R165), COUNTER_READ
(R167, R168), SET_OWN_ADDRESS (R154). -/

namespace Sys2Proof.Machine

/-- UNKNOWN_MANAGEMENT_CODE (R160): the request in execution has a code that is not in the table, or a
payload length that does not fit. -/
def execUnknownManagementCode (s : State) : StepResult :=
  .next (s.running fun s =>
    match s.agent with
    | .executing q => if lengthAccepted q.code q.payload then s else s.answer .badRequest []
    | .idle => s
    | .waiting => s)

/-- The 15-byte status record (R165). -/
def State.statusRecord (s : State) : List Byte :=
  toBytes 2 Config.partCode.toNat ++ [Config.revision] ++ toBytes 2 s.ownAddress.toNat
    ++ [(s.branch 0).state.code, (s.branch 1).state.code, (s.branch 2).state.code, (s.branch 3).state.code,
        BitVec.ofNat 8 s.liveCount, BitVec.ofNat 8 s.budgetInUse, BitVec.ofNat 8 s.tx.isHeld.toNat,
        BitVec.ofNat 8 s.notices.length, indexByte s.threshold, BitVec.ofNat 8 s.lease]

/-- STATUS_READ (R165). -/
def execStatusRead (s : State) : StepResult :=
  .next (s.carryOut 0x01 fun _ s => s.answer .done s.statusRecord)

/-- The counters of a group as bytes, each most significant byte first (R128, R156). -/
def counterBytes {n : Nat} (counters : Table (BitVec 32) n) : List Byte :=
  counters.toList.flatMap fun c => toBytes 4 c.toNat

/-- COUNTER_READ's effect: the group is read, cleared with clear flag 1, and reported (R167, R168). -/
def counterRead (payload : List Byte) (s : State) : State :=
  match payload with
  | [group, clear] =>
    if 4 < group.toNat ∨ 1 < clear.toNat then s.answer .badValue []
    else
      match index? 4 (group - 1) with
      | some b =>
        State.answer
          (if clear = 1 then s.setBranch b { s.branch b with counters := Vector.replicate 10 0 } else s)
          .done (group :: counterBytes (s.branch b).counters)
      | none =>
        State.answer (if clear = 1 then { s with trunkCounters := Vector.replicate 16 0 } else s)
          .done (group :: counterBytes s.trunkCounters)
  | _ => s

/-- COUNTER_READ (R167). -/
def execCounterRead (s : State) : StepResult := .next (s.carryOut 0x02 counterRead)

/-- SET_OWN_ADDRESS's effect: the reply is placed first, carrying the old address (R154). -/
def setOwnAddress (payload : List Byte) (s : State) : State :=
  match payload with
  | [a1, a0] =>
    if (s.forwardLookup (a1 ++ a0)).isSome then s.answer .conflict []
    else { s.answer .done [] with ownAddress := a1 ++ a0 }
  | _ => s

/-- SET_OWN_ADDRESS (R154). -/
def execSetOwnAddress (s : State) : StepResult := .next (s.carryOut 0x03 setOwnAddress)

end Sys2Proof.Machine
end

