-- ==== Sys2Proof/Machine/Notices.lean ====
section
/-! DEFINITION. The Notice Queue's requests and its lease (R136 to R140). -/

namespace Sys2Proof.Machine

/-- The highest severity among the notices a test accepts, if there is one. -/
def highestWhere (p : Notice → Bool) (ns : List Notice) : Option (Fin 8) :=
  ((ns.filter p).map Notice.severity).max?

/-- The place of the notice a claim chooses: UNCLAIMED, of the highest severity at or above the minimum,
and the oldest of these (R136). -/
def claimChoice (minimum : Nat) (ns : List Notice) : Option Nat :=
  match highestWhere (fun n => n.unclaimed && minimum ≤ n.severity.val) ns with
  | some high => ns.findIdx? fun n => n.unclaimed && n.severity == high
  | none => none

/-- NOTICE_CLAIM's effect (R136, R13). -/
def noticeClaim (payload : List Byte) (s : State) : State :=
  match payload with
  | [minimum] =>
    if minimum = 0 ∨ 7 < minimum.toNat then s.answer .badValue []
    else
      match claimChoice minimum.toNat s.notices with
      | none => s.answer .empty []
      | some i =>
        match s.notices[i]? with
        | none => s
        | some n =>
          let claimed : Notice :=
            { n with claim := some ⟨s.nextClaim, s.now + s.lease * Config.unitsPerS⟩ }
          State.answer
            ({ s with notices := s.notices.set i claimed, nextClaim := s.nextClaim + 1, lost := 0 }
              : State).judgeAttention
            .done (claimed.bytes ++ toBytes 2 s.lost.toNat)
  | _ => s

/-- The notice is CLAIMED with this claim id (R137). -/
def Notice.claimedAs (id : Byte) (n : Notice) : Bool :=
  match n.claim with
  | some c => c.id == id
  | none => false

/-- NOTICE_RETIRE's effect (R137). -/
def noticeRetire (payload : List Byte) (s : State) : State :=
  match payload with
  | [id] =>
    match s.notices.findIdx? (Notice.claimedAs id) with
    | some i => State.answer { s with notices := s.notices.eraseIdx i } .done []
    | none =>
      if s.notices.any fun n => n.previousId == some id then s.answer .staleClaim []
      else s.answer .notFound []
  | _ => s

/-- NOTICE_SETTINGS's effect (R140). -/
def noticeSettings (payload : List Byte) (s : State) : State :=
  match payload with
  | [threshold, lease] =>
    match index? 8 threshold with
    | none => s.answer .badValue []
    | some t =>
      if lease = 0 ∨ 60 < lease.toNat then s.answer .badValue []
      else
        State.answer ({ s with threshold := t, lease := lease.toNat } : State).judgeAttention .done []
  | _ => s

/-- NOTICE_CLAIM (R136). -/
def execNoticeClaim (s : State) : StepResult := .next (s.carryOut 0x60 noticeClaim)

/-- NOTICE_RETIRE (R137). -/
def execNoticeRetire (s : State) : StepResult := .next (s.carryOut 0x61 noticeRetire)

/-- NOTICE_SETTINGS (R140). -/
def execNoticeSettings (s : State) : StepResult := .next (s.carryOut 0x62 noticeSettings)

/-- Two notices of one source merged: `earlier` survives with the sum of the repeats and the data and
global address of `later`; `lapsed` is the claim id that has just lapsed (R138). -/
def Notice.merge (earlier later : Notice) (lapsed : BitVec 8) : Notice :=
  { earlier with
    severity := max earlier.severity later.severity
    globalAddress := later.globalAddress
    repeats := satAdd earlier.repeats later.repeats
    data := later.data
    forced := earlier.forced || later.forced
    claim := none
    previousId := some lapsed }

/-- The notices after the lease of the notice `n` at a place has run out (R138). -/
def lapse (ns : List Notice) (i : Nat) (n : Notice) (lapsed : BitVec 8) : List Notice :=
  match ns.findIdx? fun m => m.unclaimed && m.source == n.source with
  | none => ns.set i { n with claim := none, previousId := some lapsed }
  | some j =>
    match ns[j]? with
    | none => ns
    | some m =>
      if i < j then (ns.set i (n.merge m lapsed)).eraseIdx j
      else (ns.set j (m.merge n lapsed)).eraseIdx i

/-- The lease of the notice at a place expires (R138). -/
def State.expireLease (s : State) (place : Nat) : State :=
  match s.notices[place]? with
  | none => s
  | some n =>
    match n.claim with
    | none => s
    | some c =>
      ({ s.reach c.deadline with notices := lapse s.notices place n c.id } : State).judgeAttention

/-- LEASE_EXPIRY (R138). -/
def execLeaseExpiry (place : Fin 16) (s : State) : StepResult :=
  .next (s.running fun s => s.expireLease place.val)

end Sys2Proof.Machine
end

