-- ==== Sys2Proof/Machine/Resets.lean ====
section
/-! DEFINITION. The resets: RESET# falling and rising, and SOFT_RESET in its two scopes (R26, R45, R68, R101 to
R103, R129, R144, R153, R157, R164, R169). -/

namespace Sys2Proof.Machine

/-- RESET# low: every block at its hard-reset value. The own address is set when the reset ends (R153; log
entry 6) and the model's time base goes on. -/
def State.hardReset (s : State) : State :=
  { State.reset with resetLow := true, now := s.now, ownAddress := s.ownAddress, pending := s.pending }

/-- RESET# rises: the straps are read into the own address (R153). -/
def State.endHardReset (straps : BitVec 4) (s : State) : State :=
  if s.resetLow then { s with resetLow := false, ownAddress := Config.strapBase + straps.setWidth 16 } else s

/-- A tag record after a TRAFFIC soft reset (R118, R119, R129). -/
def TagRecord.afterTraffic (deadline : Time) : TagRecord → TagRecord
  | .inUse profile localAddress => .cooling profile localAddress deadline
  | .free => .free
  | .cooling profile localAddress old => .cooling profile localAddress old

/-- A branch state after a TRAFFIC soft reset (R129). -/
def BranchState.afterTraffic : BranchState → BranchState
  | .draining _ => .disabled
  | .disabled => .disabled
  | .enabled => .enabled
  | .faulted => .faulted

/-- A Branch Port after a TRAFFIC soft reset (R129). -/
def BranchPort.afterTraffic (now : Time) (p : BranchPort) : BranchPort :=
  { p with
    state := p.state.afterTraffic
    urgentQueue := []
    normalQueue := []
    tags := p.tags.map (TagRecord.afterTraffic (now + p.settings.coolInterval * Config.unitsPerMs)) }

/-- A Branch Port after a FULL soft reset: the hard-reset port, but a frame in transmission is sent to its
end (R129). -/
def BranchPort.afterFull (p : BranchPort) : BranchPort := { resetPort with tx := p.tx }

/-- What a soft reset leaves of the Trunk Output Queue: the frame in transmission (R157). -/
def State.inTransmission (s : State) : List OutFrame := if s.tx.inFlight then s.toq.take 1 else []

/-- Stages 1 and 2 of a TRAFFIC soft reset (R169). DESIGN CHOICE: a TRANSACTION_ABORT waiting in the input queue is
discarded unanswered with the other frames (R158, R169, R171), though R103 says that one queued behind the reset is
answered NOT_FOUND (log entry 15). -/
def State.afterTraffic (s : State) : State :=
  { s with
    inq := []
    toq := s.inTransmission
    records := Vector.replicate 32 none
    branches := s.branches.map (BranchPort.afterTraffic s.now)
    attentionPending := false }

/-- Stages 1 and 2 of a FULL soft reset (R169): the hard-reset values, but for the own address, the
transmitter, the frames in transmission and the Agent's reservation. DESIGN CHOICE: the input queue is emptied
unanswered, as for a TRAFFIC reset (log entry 15). -/
def State.afterFull (s : State) : State :=
  { State.reset with
    resetLow := s.resetLow
    now := s.now
    ownAddress := s.ownAddress
    tx := s.tx
    toq := s.inTransmission
    agent := s.agent
    branches := s.branches.map BranchPort.afterFull
    pending := s.pending }

/-- The fresh attention request behind the reply of a TRAFFIC soft reset (R144, R169). -/
def State.freshAttention (s : State) : State := if s.attentionCondition then s.requestAttention else s

/-- HARD_RESET (R129). -/
def execHardReset (s : State) : StepResult := .next s.hardReset

/-- HARD_RESET_END (R153). -/
def execHardResetEnd (straps : BitVec 4) (s : State) : StepResult := .next (s.endHardReset straps)

/-- The execution of a SOFT_RESET whose scope byte a test accepts; another scope is another command
(log entry 3). -/
def softReset (scope : Byte → Bool) (act : State → State) (payload : List Byte) (s : State) : State :=
  match payload with
  | [b] => if scope b then act s else s
  | _ => s

/-- SOFT_RESET_TRAFFIC (R169): scope 1. -/
def execSoftResetTraffic (s : State) : StepResult :=
  .next (s.carryOut 0x04 (softReset (· == 1) fun s => (s.afterTraffic.answer .done [1]).freshAttention))

/-- SOFT_RESET_FULL (R169): scope 2. -/
def execSoftResetFull (s : State) : StepResult :=
  .next (s.carryOut 0x04 (softReset (· == 2) fun s => s.afterFull.answer .done [2]))

/-- SOFT_RESET_BAD_VALUE (R169): scope 0 or 3 to 255. -/
def execSoftResetBadValue (s : State) : StepResult :=
  .next (s.carryOut 0x04 (softReset (fun b => b != 1 && b != 2) fun s => s.answer .badValue []))

end Sys2Proof.Machine
end

