-- ==== Sys2Proof/Machine/TrunkPort.lean ====
section
/-! DEFINITION. The trunk: Admission (chapter 5), the Management Input Queue's entry (R146), HOLD and RELEASE
(R150), the receiver (R145), the transmitter's end of a frame (R151), the pending attention request (R143). -/

namespace Sys2Proof.Machine

/-! ### Admission -/

/-- The fields of a good trunk REQUEST (R4); `flags` is bits 3-0 of its first byte. -/
structure TrunkRequest where
  flags   : BitVec 4
  address : Address
  tag     : Byte
  op      : Byte
  payload : List Byte
deriving DecidableEq, Repr

/-- The op is among the permitted ops of a route (R73). -/
def RouteConfig.permits (c : RouteConfig) : Op → Bool
  | .read => c.permitRead
  | .write => c.permitWrite
  | .exchange => c.permitExchange

/-- The recipe field of a route for an op (R31). -/
def RouteConfig.recipeFor (c : RouteConfig) : Op → Option (Fin 32)
  | .read => c.recipeRead
  | .write => c.recipeWrite
  | .exchange => c.recipeExchange

/-- What Admission decides (R69). -/
inductive Verdict where
  | refuse (status : RefusalStatus)
  | accept (index : Fin 128) (config : RouteConfig) (op : Op) (tag : Fin 64) (first : Option Step)
deriving DecidableEq, Repr

/-- The header fields that the first check lets through, read as op and trunk tag (R71). -/
def TrunkRequest.header (q : TrunkRequest) : Option (Op × Fin 64) :=
  match Op.ofCode q.op, index? 64 q.tag with
  | some op, some tag =>
    if q.payload.length ≤ 64 ∧ q.flags.extractLsb' 0 3 = 0 then some (op, tag) else none
  | _, _ => none

/-- The nine checks in their order (R70 to R75). -/
def State.judgeRequest (s : State) (q : TrunkRequest) : Verdict :=
  match q.header with
  | none => .refuse .malformed
  | some (op, tag) =>
    match s.forwardLookup q.address with
    | none => .refuse .noRoute
    | some (index, route) =>
      if route.quarantined then .refuse .unreachable
      else if !route.config.permits op then .refuse .denied
      else
        match s.recipeOf (route.config.recipeFor op) op with
        | none => .refuse .noRecipe
        | some recipe =>
          if q.payload.length < recipe.neededLength then .refuse .malformed
          else
            match (s.branch route.config.branch).state with
            | .disabled => .refuse .branchDown
            | .faulted => .refuse .branchDown
            | .draining _ => .refuse .branchDraining
            | .enabled =>
              if (s.slotOfTag q.tag).isSome then .refuse .tagInUse
              else if Config.budget ≤ s.budgetInUse then .refuse .busy
              else .accept index route.config op tag recipe.steps[0]?

/-- The refusal RESPONSE (R76). -/
def refusalFrame (q : TrunkRequest) (status : RefusalStatus) : TrunkFrame :=
  buildTrunk kindResponse q.address q.tag status.code (responsePayload 0xFF 0 [])

/-- A request is refused: counted, and answered from a pool place or dropped (R76). -/
def State.refuse (s : State) (q : TrunkRequest) (status : RefusalStatus) : State :=
  (s.bumpTrunk status.counter).joinOrDrop (refusalFrame q status)

/-- The record of an admitted request, before its first step places it (R77). -/
def newRecord (q : TrunkRequest) (index : Fin 128) (generation : BitVec 8) (c : RouteConfig) (op : Op)
    (tag : Fin 64) : Record :=
  { state := .queued, trunkTag := tag, globalAddress := q.address, urgent := q.flags.getLsbD 3, op
    snapshot :=
      { routeIndex := index, routeGeneration := generation, branch := c.branch
        localAddress := c.localAddress, profile := c.profile, timeout := c.timeout
        retryLimit := c.retryLimit, recipe := c.recipeFor op }
    payload := q.payload, step := 0, attempts := 0, retries := 0, accumulator := [] }

/-- An admitted request becomes a record in the lowest free slot (R77, R78). There is always a free slot
below the budget (R75), and a recipe always has a first step (R46). -/
def State.createRecord (s : State) (q : TrunkRequest) (index : Fin 128) (c : RouteConfig) (op : Op)
    (tag : Fin 64) (first : Option Step) : State :=
  match s.freeSlot, first with
  | some slot, some step => s.takeUp slot (newRecord q index (s.route index).generation c op tag) step
  | _, _ => s

/-- Admission takes a request (R69). -/
def State.admission (s : State) (q : TrunkRequest) : State :=
  match s.judgeRequest q with
  | .refuse status => s.refuse q status
  | .accept index c op tag first => s.createRecord q index c op tag first

/-! ### The other kinds -/

/-- A MANAGE frame to the own address enters the Management Input Queue, or is refused BUSY; an IDLE
Agent takes it in the same event (R146, R159). -/
def State.enterManage (s : State) (q : ManageRequest) : State :=
  if s.inq.length < Config.inputPlaces then
    let s : State := { s with inq := s.inq ++ [q] }
    match s.agent with
    | .idle => s.agentNext
    | .waiting => s
    | .executing _ => s
  else s.joinOrDrop (buildTrunk kindManageReply s.ownAddress q.tag Result.busy.code [])

/-- A good MANAGE frame (R145). -/
def State.takeManage (s : State) (address : Address) (q : ManageRequest) : State :=
  if address = s.ownAddress then s.enterManage q else s.bumpTrunk .misaddressed

/-- HOLD acts on the transmitter (R150). -/
def TrunkTx.hold : TrunkTx → TrunkTx
  | .idle => .held false
  | .sending => .held true
  | .held finishing => .held finishing

/-- RELEASE acts on the transmitter; `waiting` says that the queue is not empty (R150). -/
def TrunkTx.release (waiting : Bool) : TrunkTx → TrunkTx
  | .idle => .idle
  | .sending => .sending
  | .held true => .sending
  | .held false => if waiting then .sending else .idle

/-- A good HOLD frame (R145, R150). -/
def State.takeHold (s : State) (address : Address) : State :=
  if address = s.ownAddress then { s with tx := s.tx.hold } else s

/-- A good RELEASE frame (R145, R150). -/
def State.takeRelease (s : State) (address : Address) : State :=
  if address = s.ownAddress then { s with tx := s.tx.release (!s.toq.isEmpty) } else s

/-- A good trunk frame is classified by its kind code (R145). -/
def State.classifyTrunk (s : State) (f : TrunkFrame) : State :=
  if f.kind = kindRequest then s.admission ⟨f.flags, f.address, f.tag, f.code, f.payload⟩
  else if f.kind = kindManage then s.takeManage f.address ⟨f.tag, f.code, f.payload⟩
  else if f.kind = kindHold then s.takeHold f.address
  else if f.kind = kindRelease then s.takeRelease f.address
  else s.bumpTrunk .unknownKind

/-- The receiver takes a frame's content (R145). -/
def State.receiveTrunk (s : State) (content : List Byte) : State :=
  match readTrunk content with
  | some f => (s.bumpTrunk .goodFrames).classifyTrunk f
  | none => s.bumpTrunk .checkErrors

/-- A frame given by its fields: good, unless its payload is longer than a good frame's (R2; log
entry 10). -/
def State.receiveGood (s : State) (payload : List Byte) (act : State → State) : State :=
  if payload.length ≤ 96 then act (s.bumpTrunk .goodFrames) else s.bumpTrunk .checkErrors

/-! ### The transmitter -/

/-- The transmitter after the last byte of a frame; `waiting` says that more frames wait (R151). -/
def TrunkTx.next (waiting : Bool) : TrunkTx → TrunkTx
  | .sending => if waiting then .sending else .idle
  | .held _ => .held false
  | .idle => .idle

/-- The transmission of a frame ends: the head leaves, which frees its place and, for a transaction
RESPONSE, its budget unit; the transmitter goes on (R151). -/
def State.endTransmission (s : State) : State :=
  if s.tx.inFlight then { s with toq := s.toq.tail, tx := s.tx.next (!s.toq.tail.isEmpty) } else s

/-- The pending attention request is offered a free pool place (R143). -/
def State.resolvePending (s : State) : State :=
  if s.attentionPending && s.poolFree then
    if s.attentionCondition then ({ s with attentionPending := false }).join .pool s.attentionFrame
    else { s with attentionPending := false }
  else s

/-- The Agent reserves a free pool place and takes the head of its queue (R159). -/
def State.takeRequest (s : State) : State :=
  match s.agent with
  | .executing _ => s
  | .idle => s.agentNext
  | .waiting => s.agentNext

/-! ### The commands -/

/-- TRUNK_FRAME (R145). -/
def execTrunkFrame (content : List Byte) (s : State) : StepResult :=
  .next (s.running fun s => s.receiveTrunk content)

/-- REQUEST (R69, R70). -/
def execRequest (flags : BitVec 4) (address : Address) (tag op : Byte) (payload : List Byte) (s : State) :
    StepResult :=
  .next (s.running fun s => s.receiveGood payload fun s => s.admission ⟨flags, address, tag, op, payload⟩)

/-- MANAGE (R146). -/
def execManage (address : Address) (tag code : Byte) (payload : List Byte) (s : State) : StepResult :=
  .next (s.running fun s => s.receiveGood payload fun s => s.takeManage address ⟨tag, code, payload⟩)

/-- HOLD (R150). -/
def execHold (address : Address) (s : State) : StepResult :=
  .next (s.running fun s => s.receiveGood [] fun s => s.takeHold address)

/-- RELEASE (R150). -/
def execRelease (address : Address) (s : State) : StepResult :=
  .next (s.running fun s => s.receiveGood [] fun s => s.takeRelease address)

/-- TRUNK_TRANSMISSION_END (R151). -/
def execTrunkTransmissionEnd (s : State) : StepResult := .next (s.running State.endTransmission)

/-- PENDING_REQUEST_RESOLVED (R143). -/
def execPendingRequestResolved (s : State) : StepResult := .next (s.running State.resolvePending)

/-- TAKE_REQUEST (R159). -/
def execTakeRequest (s : State) : StepResult := .next (s.running State.takeRequest)

end Sys2Proof.Machine
end

