-- ==== Sys2Proof/Machine/Dispatch.lean ====
section
/-! DEFINITION. The meaning of each command, one arm per row of spec/opcode_table.json. -/

namespace Sys2Proof.Machine

/-- The effect of a command on everything but the queue of waiting commands. -/
def exec (i : Instr) (s : State) : Host.Outcome State Fault Refusal :=
  match i with
  | .hardReset => Sys2Proof.Machine.execHardReset s
  | .trunkFrame content => Sys2Proof.Machine.execTrunkFrame content s
  | .request flags address tag op payload => Sys2Proof.Machine.execRequest flags address tag op payload s
  | .manage address tag code payload => Sys2Proof.Machine.execManage address tag code payload s
  | .hold address => Sys2Proof.Machine.execHold address s
  | .release address => Sys2Proof.Machine.execRelease address s
  | .trunkTransmissionEnd => Sys2Proof.Machine.execTrunkTransmissionEnd s
  | .pendingRequestResolved => Sys2Proof.Machine.execPendingRequestResolved s
  | .takeRequest => Sys2Proof.Machine.execTakeRequest s
  | .unknownManagementCode => Sys2Proof.Machine.execUnknownManagementCode s
  | .statusRead => Sys2Proof.Machine.execStatusRead s
  | .counterRead => Sys2Proof.Machine.execCounterRead s
  | .setOwnAddress => Sys2Proof.Machine.execSetOwnAddress s
  | .softResetTraffic => Sys2Proof.Machine.execSoftResetTraffic s
  | .softResetFull => Sys2Proof.Machine.execSoftResetFull s
  | .routeWrite => Sys2Proof.Machine.execRouteWrite s
  | .routeRead => Sys2Proof.Machine.execRouteRead s
  | .routeDelete => Sys2Proof.Machine.execRouteDelete s
  | .routeReinstate => Sys2Proof.Machine.execRouteReinstate s
  | .profileWrite => Sys2Proof.Machine.execProfileWrite s
  | .profileRead => Sys2Proof.Machine.execProfileRead s
  | .recipeWrite => Sys2Proof.Machine.execRecipeWrite s
  | .recipeRead => Sys2Proof.Machine.execRecipeRead s
  | .recipeClear => Sys2Proof.Machine.execRecipeClear s
  | .constWrite => Sys2Proof.Machine.execConstWrite s
  | .constRead => Sys2Proof.Machine.execConstRead s
  | .branchConfig => Sys2Proof.Machine.execBranchConfig s
  | .branchEnable => Sys2Proof.Machine.execBranchEnable s
  | .branchDrain => Sys2Proof.Machine.execBranchDrain s
  | .branchDisable => Sys2Proof.Machine.execBranchDisable s
  | .transactionAbort => Sys2Proof.Machine.execTransactionAbort s
  | .pendingRead => Sys2Proof.Machine.execPendingRead s
  | .noticeClaim => Sys2Proof.Machine.execNoticeClaim s
  | .noticeRetire => Sys2Proof.Machine.execNoticeRetire s
  | .noticeSettings => Sys2Proof.Machine.execNoticeSettings s
  | .branchFrame branch content => Sys2Proof.Machine.execBranchFrame branch content s
  | .branchResponse branch localAddress tag status payload => Sys2Proof.Machine.execBranchResponse branch localAddress tag status payload s
  | .alert branch localAddress payload => Sys2Proof.Machine.execAlert branch localAddress payload s
  | .schedulerIssue branch => Sys2Proof.Machine.execSchedulerIssue branch s
  | .branchTransmissionEnd branch => Sys2Proof.Machine.execBranchTransmissionEnd branch s
  | .exchangeTimerExpiry branch tag => Sys2Proof.Machine.execExchangeTimerExpiry branch tag s
  | .spacingExpiry slot => Sys2Proof.Machine.execSpacingExpiry slot s
  | .pauseExpiry slot => Sys2Proof.Machine.execPauseExpiry slot s
  | .coolDeadlineExpiry branch tag => Sys2Proof.Machine.execCoolDeadlineExpiry branch tag s
  | .drainDeadlineExpiry branch => Sys2Proof.Machine.execDrainDeadlineExpiry branch s
  | .leaseExpiry place => Sys2Proof.Machine.execLeaseExpiry place s
  | .hardResetEnd straps => Sys2Proof.Machine.execHardResetEnd straps s
  | .softResetBadValue => Sys2Proof.Machine.execSoftResetBadValue s

end Sys2Proof.Machine
end

