-- ==== Sys2Proof/Safety.lean ====
section
/-! DEFINITION. What a sound state of the part is: the invariants that the spec states of its tables, queues
and ports. Each is a decidable proposition over the state. -/

namespace Sys2Proof.Machine

/-! ### Route Table -/

/-- Among the non-EMPTY entries no two share a global address, no two share a branch and local address, and
none holds the own address (R28). -/
abbrev State.RoutesUnique (s : State) : Prop :=
  (∀ i j : Fin 128, ∀ r ∈ (s.route i).live, ∀ q ∈ (s.route j).live,
    r.config.globalAddress = q.config.globalAddress → i = j) ∧
  (∀ i j : Fin 128, ∀ r ∈ (s.route i).live, ∀ q ∈ (s.route j).live,
    r.config.branch = q.config.branch → r.config.localAddress = q.config.localAddress → i = j) ∧
  (∀ i : Fin 128, ∀ r ∈ (s.route i).live, r.config.globalAddress ≠ s.ownAddress)

/-- An entry's configuration is in range (R11), and a VALID entry with a quarantine limit has counted fewer
failures than it (R41). -/
abbrev LiveRoute.Sound (r : LiveRoute) : Prop :=
  1 ≤ r.config.localAddress.toNat ∧ r.config.localAddress.toNat ≤ 126 ∧ r.config.timeout ≠ 0 ∧
  (r.quarantined = false → r.config.quarantineLimit ≠ 0 →
    r.failures.toNat < r.config.quarantineLimit.toNat)

/-- The Route Table is sound; while RESET# is low every entry is EMPTY (R28, R11, R41, R45). -/
abbrev State.RoutesSound (s : State) : Prop :=
  s.RoutesUnique ∧ (∀ i : Fin 128, ∀ r ∈ (s.route i).live, r.Sound) ∧
  (s.resetLow = true → ∀ i : Fin 128, (s.route i).live = none)

/-! ### Trunk queues -/

/-- The pool, the input queue, the transmitter and the Agent agree (R147, R149, R158, R159): at most 8 pool
places taken, at most 4 frames wait, an IDLE transmitter has an empty queue, a frame in transmission exists,
an IDLE Agent has an empty input queue and a WAITING one has not. -/
abbrev State.TrunkSound (s : State) : Prop :=
  s.poolTaken ≤ 8 ∧ s.inq.length ≤ 4 ∧ (s.tx = .idle → s.toq = []) ∧
  (s.tx.inFlight = true → s.toq ≠ []) ∧ (s.agent = .idle → s.inq = []) ∧ (s.agent = .waiting → s.inq ≠ [])

/-- A frame the part built: of a kind it sends, bits 3-0 zero, its check computed (R2, R3, R14). -/
abbrev TrunkFrame.Built (f : TrunkFrame) : Prop :=
  (f.kind = kindResponse ∨ f.kind = kindManageReply ∨ f.kind = kindAttention) ∧ f.flags = 0 ∧
  f.check = trunkCheck (trunkBody f.kind f.flags f.address f.tag f.code f.payload)

/-- Every frame in the Trunk Output Queue is built, and those in reserved places are RESPONSE frames
(R147, R148). -/
abbrev State.FramesBuilt (s : State) : Prop :=
  ∀ f ∈ s.toq, f.frame.Built ∧ (f.place = .reserved → f.frame.kind = kindResponse)

/-! ### Transaction Table -/

/-- The budget in use is at most 32, and no two live records hold the same trunk tag (R83, R95). -/
abbrev State.BudgetSound (s : State) : Prop :=
  s.budgetInUse ≤ 32 ∧
  ∀ i j : Fin 32, ∀ r ∈ s.record i, ∀ q ∈ s.record j, r.trunkTag = q.trunkTag → i = j

/-- A step's fields are in range (R12). -/
def Step.inRange : Step → Bool
  | .issue _ _ _ _ _ => true
  | .await _ _ _ _ _ limit spacing => limit != 0 && durationOk spacing
  | .pause duration => durationOk duration

/-- A loaded recipe is sound: one to eight steps in range, with the derived lengths, the fixed capture total
at most 64 (R46, R52, R53). -/
abbrev Recipe.Sound (r : Recipe) : Prop :=
  1 ≤ r.steps.length ∧ r.steps.length ≤ 8 ∧ (∀ step ∈ r.steps, step.inRange = true) ∧
  r.neededLength = Machine.neededLength r.steps ∧ r.captureTotal = Machine.captureTotal r.steps ∧
  r.captureTotal ≤ 64

/-- Every LOADED recipe is sound and every constant block has at most 16 bytes (R46, R47). -/
abbrev State.StoreSound (s : State) : Prop :=
  (∀ k : Fin 32, ∀ r ∈ s.recipe k, r.Sound) ∧ ∀ k : Fin 32, (s.block k).length ≤ 16

/-- The state of a record fits the step it stands at: PAUSED at a PAUSE, SPACING at an AWAIT, QUEUED and
ISSUED at a step that sends; at an AWAIT the attempts are below the limit (R67, R84). -/
def RecordState.fits (attempts : Nat) : RecordState → Step → Bool
  | .paused _, .pause _ => true
  | .spacing _, .await _ _ _ _ _ limit _ => attempts < limit.toNat
  | .queued, .issue _ _ _ _ _ => true
  | .queued, .await _ _ _ _ _ limit _ => attempts < limit.toNat
  | .issued _ _, .issue _ _ _ _ _ => true
  | .issued _ _, .await _ _ _ _ _ limit _ => attempts < limit.toNat
  | _, _ => false

/-- A live record stands at a step of its recipe that its state fits, within its bounds (R83). -/
abbrev State.RecordSound (s : State) (r : Record) : Prop :=
  r.payload.length ≤ 64 ∧ r.accumulator.length ≤ 64 ∧ r.retries ≤ r.snapshot.retryLimit.val ∧
  r.step < (s.stepsOf r).length ∧ (∀ step ∈ s.stepOf r, r.state.fits r.attempts step = true)

/-- The Recipe Store and every live record are sound (R46, R83). -/
abbrev State.RecordsSound (s : State) : Prop :=
  s.StoreSound ∧ ∀ i : Fin 32, ∀ r ∈ s.record i, s.RecordSound r

/-! ### Branch Ports -/

/-- While a branch is DISABLED or FAULTED no live record names it, and a DRAINING branch has at least one
(R106). -/
abbrev State.BranchStatesSound (s : State) : Prop :=
  ∀ b : Fin 4, ((s.branch b).state.working = false → s.liveOn b = 0) ∧
    ((s.branch b).state.isDraining = true → 1 ≤ s.liveOn b)

/-- The Issue Queues hold exactly the QUEUED records, each once, in the class of its urgency and on its own
branch (R84, R114). -/
abbrev State.IssueQueuesSound (s : State) : Prop :=
  ∀ b : Fin 4, (s.branch b).issueQueue.Nodup ∧
    ∀ i : Fin 32,
      (i ∈ (s.branch b).urgentQueue ↔
        s.recordIs (fun r => r.snapshot.branch == b && r.isQueued && r.urgent) i = true) ∧
      (i ∈ (s.branch b).normalQueue ↔
        s.recordIs (fun r => r.snapshot.branch == b && r.isQueued && !r.urgent) i = true)

/-- Every ISSUED record holds a tag of its branch, IN_USE with its profile and local address; every IN_USE
tag is held by exactly one ISSUED record; and the number of ISSUED records is within the window (R84,
R118). -/
abbrev State.TagsSound (s : State) : Prop :=
  ∀ b : Fin 4, s.issuedOn b ≤ (s.branch b).settings.window ∧
    ∀ t : Fin 16,
      (∀ i : Fin 32, ∀ r ∈ s.record i, r.snapshot.branch = b → r.holdsTag t = true →
        (s.branch b).tag t = .inUse r.snapshot.profile r.snapshot.localAddress) ∧
      (((s.branch b).tag t).isInUse = true →
        countWhere (s.recordIs fun r => r.snapshot.branch == b && r.holdsTag t) = 1)

/-- The settings of a port are in range (R104) and its consecutive count is below the fault limit while it
works (R125). -/
abbrev BranchPort.SettingsSound (p : BranchPort) : Prop :=
  1 ≤ p.settings.window ∧ p.settings.window ≤ 4 ∧
  1 ≤ p.settings.coolInterval ∧ p.settings.coolInterval ≤ 255 ∧
  1 ≤ p.settings.faultLimit ∧ p.settings.faultLimit ≤ 15 ∧ p.consecutive ≤ 15 ∧
  (p.state.working = true → p.consecutive < p.settings.faultLimit)

/-- A profile's values fit its width and its polynomial is odd (R15). -/
abbrev CheckProfile.Sound (p : CheckProfile) : Prop :=
  p.polynomial.toNat < 2 ^ p.width.bits ∧ p.initial.toNat < 2 ^ p.width.bits ∧
  p.finalXor.toNat < 2 ^ p.width.bits ∧ p.polynomial.getLsbD 0 = true

/-- Every setting of the part is in range (R15, R104, R125, R140). -/
abbrev State.SettingsSound (s : State) : Prop :=
  (∀ b : Fin 4, (s.branch b).SettingsSound) ∧ (∀ p : Fin 4, (s.profile p).Sound) ∧
  1 ≤ s.lease ∧ s.lease ≤ 60

/-! ### Notice Queue -/

/-- Only a NODE_ALERT holds data, and only a BRANCH_DRAINED is forced (R130). -/
def Notice.fieldsFit (n : Notice) : Bool :=
  match n.source with
  | .nodeAlert _ _ => !n.forced
  | .branchDrained _ => n.data.isEmpty
  | .routeQuarantined _ => n.data.isEmpty && !n.forced
  | .branchFaulted _ => n.data.isEmpty && !n.forced

/-- A notice is in range (R130): severity 1 to 7, at least one repeat, at most 8 data bytes. -/
abbrev Notice.Sound (n : Notice) : Prop :=
  n.severity ≠ 0 ∧ n.repeats ≠ 0 ∧ n.data.length ≤ 8 ∧ n.fieldsFit = true

/-- At most 16 notices, each in range, and at most one UNCLAIMED notice of any one kind and source
(R130). -/
abbrev State.NoticesSound (s : State) : Prop :=
  s.notices.length ≤ 16 ∧ (∀ n ∈ s.notices, n.Sound) ∧
  ((s.notices.filter Notice.unclaimed).map Notice.source).Nodup

/-- ATTN# is asserted exactly when the attention condition holds; while RESET# is low it is released and no
notice is held (R141, R144). -/
abbrev State.AttnSound (s : State) : Prop :=
  s.attn = s.attentionCondition ∧ (s.resetLow = true → s.attn = false ∧ s.notices = [])

/-- Every invariant together. -/
abbrev State.Sound (s : State) : Prop :=
  s.RoutesSound ∧ s.TrunkSound ∧ s.FramesBuilt ∧ s.BudgetSound ∧ s.RecordsSound ∧ s.BranchStatesSound ∧
  s.IssueQueuesSound ∧ s.TagsSound ∧ s.SettingsSound ∧ s.NoticesSound ∧ s.AttnSound

/-! ### Terms the claims use -/

/-- RESET# is high and the Agent is EXECUTING a request with this code and payload (R159, R161). -/
abbrev State.Executes (s : State) (code : Byte) (payload : List Byte) : Prop :=
  s.resetLow = false ∧ ∃ tag, s.agent = .executing ⟨tag, code, payload⟩

/-- The record that a ROUTE_WRITE carries for a configuration, its bytes 0, 15 and 16 of any value (R11). -/
def RouteConfig.record (c : RouteConfig) (b0 b15 b16 : Byte) : List Byte :=
  [b0, c.globalAddress.extractLsb' 8 8, c.globalAddress.extractLsb' 0 8, indexByte c.branch, c.localAddress,
   c.opsByte, slotChoiceByte c.recipeRead, slotChoiceByte c.recipeWrite, slotChoiceByte c.recipeExchange,
   indexByte c.profile, c.timeout.extractLsb' 8 8, c.timeout.extractLsb' 0 8, indexByte c.retryLimit,
   c.quarantineLimit, indexByte c.alertSeverity, b15, b16]

/-- A 10-byte record carries a step, its unused bytes of any value (R12). -/
def Step.WrittenAs : Step → List Byte → Prop
  | .issue op block offset slice capture, bytes =>
    ∃ u v w x, bytes = [1, op.code, slotChoiceByte block, indexByte offset, slice.byte, capture.byte, u, v, w, x]
  | .await op block index mask expected limit spacing, bytes =>
    ∃ u, bytes = [2, op.code, slotChoiceByte block, indexByte index, mask, expected, limit,
      spacing.extractLsb' 8 8, spacing.extractLsb' 0 8, u]
  | .pause duration, bytes =>
    ∃ t u v w x y z, bytes = [3, duration.extractLsb' 8 8, duration.extractLsb' 0 8, t, u, v, w, x, y, z]

/-- The four bytes of a counter, most significant first (R128, R156). -/
def bytesOf (c : BitVec 32) : List Byte :=
  [c.extractLsb' 24 8, c.extractLsb' 16 8, c.extractLsb' 8 8, c.extractLsb' 0 8]

/-- What becomes of an IN_USE tag that enters COOLING at a moment (R119). -/
def BranchPort.cooled (p : BranchPort) (now : Time) : TagRecord → TagRecord
  | .inUse profile localAddress => .cooling profile localAddress (now + p.settings.coolInterval * 10)
  | .free => .free
  | .cooling profile localAddress deadline => .cooling profile localAddress deadline

/-- The profile a port checks a received frame with, by its kind and tag bytes: that of the IN_USE or COOLING tag a
RESPONSE names, and otherwise its default profile (R124). -/
def BranchPort.ChecksWith (port : BranchPort) (kind tag : Byte) (p : Fin 4) : Prop :=
  (kind = 2 ∧ ∃ n : Fin 16, tag.toNat = n.val ∧
    ∃ a, port.tag n = .inUse p a ∨ ∃ deadline, port.tag n = .cooling p a deadline) ∨
  ((kind = 2 → ∀ n : Fin 16, tag.toNat = n.val → port.tag n = .free) ∧ p = port.settings.defaultProfile)

/-- The management commands and the codes they carry out (R6, section 10.3). -/
def requestCommands : List (Instr × Byte) :=
  [(.statusRead, 0x01), (.counterRead, 0x02), (.setOwnAddress, 0x03), (.softResetTraffic, 0x04),
   (.softResetFull, 0x04), (.softResetBadValue, 0x04), (.routeWrite, 0x10), (.routeRead, 0x11),
   (.routeDelete, 0x12), (.routeReinstate, 0x13), (.profileWrite, 0x20), (.profileRead, 0x21),
   (.recipeWrite, 0x30), (.recipeRead, 0x31), (.recipeClear, 0x32), (.constWrite, 0x33), (.constRead, 0x34),
   (.branchConfig, 0x40), (.branchEnable, 0x41), (.branchDrain, 0x42), (.branchDisable, 0x43),
   (.transactionAbort, 0x50), (.pendingRead, 0x51), (.noticeClaim, 0x60), (.noticeRetire, 0x61),
   (.noticeSettings, 0x62)]

end Sys2Proof.Machine
end

