-- ==== Sys2Proof/Certificates/Slice0/Obligations.lean ====
section
/-! DEFINITION. The statements about the model, from the numbered rules of spec/. Each is a Prop; its docstring
names the rule or the section it formalises and says where a clause is the model's own choice. -/

section
open Sys2Proof Sys2Proof.Machine

/-! ### The queue of commands and the reset pin -/

/-- One step takes the command at the front of the queue and carries it out with the queue's rest. -/
def Obligations.StepCarriesOutTheFrontCommand : Prop :=
  ∀ (c : Instr) (rest : List Instr) (s : State),
    s.pending = c :: rest → step s = exec c { s with pending := rest }

/-- Every command, in every state, answers a next state: none faults or refuses. It leaves the queue of waiting
commands alone, and RESET# is low afterwards exactly where it has just fallen or has not risen (sections 7.9, 9.6). -/
def Obligations.EveryCommandAnswersNext : Prop :=
  ∀ (c : Instr) (s : State), ∃ t, exec c s = .next t ∧ t.pending = s.pending ∧
    (t.resetLow = true ↔
      c = .hardReset ∨ (s.resetLow = true ∧ ∀ straps, c ≠ .hardResetEnd straps))

/-- R101 in full, and what the straps then give: a hard reset empties the Transaction Table, the Issue Queues and the
Trunk Output Queue, cancels every timer and writes no RESPONSE, the completed counters read 0, no tag is held and no
recipe or profile is in use; when RESET# rises the part is as at reset, with the own address 0xFF00 plus the straps. -/
def Obligations.HardResetEmptiesThePart : Prop :=
  ∀ (s : State) (straps : BitVec 4), ∃ t,
    exec .hardReset s = .next t ∧ t.resetLow = true ∧
    (∀ i, t.record i = none) ∧ t.budgetInUse = 0 ∧ t.toq = [] ∧ t.tx = .idle ∧
    (∀ b, (t.branch b).issueQueue = [] ∧ (t.branch b).tx = none ∧ (t.branch b).state = .disabled ∧
      ∀ n, (t.branch b).tag n = .free) ∧
    (∀ n, look t.trunkCounters n = 0) ∧ (∀ tag, t.slotOfTag tag = none) ∧
    (∀ k, t.recipeInUse k = false) ∧ (∀ p, t.profileInUse p = false) ∧
    exec (.hardResetEnd straps) t = .next
      { State.reset with
        ownAddress := BitVec.ofNat 16 (0xFF00 + straps.toNat), now := s.now, pending := s.pending }

/-- While RESET# is low no command but the two of the pin changes anything (sections 7.9, 9.6; that they exhaust the
rows is the model's reading, log entry 4). Where the part is not as a command needs it, the command cannot occur and
changes nothing (the model's choice, log entry 3): RESET# rising while it is high, the end of a transmission where none is
in progress, a management command whose code or scope is not the one in execution, a request taken while another is in
execution, the expiry of a timer that does not run. -/
def Obligations.CommandsThatCannotOccurChangeNothing : Prop :=
  (∀ (c : Instr) (s : State), s.resetLow = true → c ≠ .hardReset → (∀ straps, c ≠ .hardResetEnd straps) →
    exec c s = .next s) ∧
  ∀ (s : State), s.resetLow = false →
    (∀ straps, exec (.hardResetEnd straps) s = .next s) ∧
    (s.tx.inFlight = false → exec .trunkTransmissionEnd s = .next s) ∧
    (∀ q, s.agent = .executing q → exec .takeRequest s = .next s) ∧
    (∀ c code, (c, code) ∈ requestCommands → (∀ q, s.agent = .executing q → q.code ≠ code) →
      exec c s = .next s) ∧
    ((∀ q, s.agent = .executing q → lengthAccepted q.code q.payload = true) →
      exec .unknownManagementCode s = .next s) ∧
    (∀ b, (s.branch b).tx = none → exec (.branchTransmissionEnd b) s = .next s) ∧
    (∀ scope, s.Executes 0x04 [scope] →
      (scope ≠ 1 → exec .softResetTraffic s = .next s) ∧ (scope ≠ 2 → exec .softResetFull s = .next s) ∧
      (scope = 1 ∨ scope = 2 → exec .softResetBadValue s = .next s)) ∧
    (∀ b tag, (∀ slot r d, s.record slot = some r → r.snapshot.branch = b → r.state ≠ .issued tag (some d)) →
      exec (.exchangeTimerExpiry b tag) s = .next s) ∧
    (∀ slot, (∀ r d, s.record slot = some r → r.state ≠ .spacing d) → exec (.spacingExpiry slot) s = .next s) ∧
    (∀ slot, (∀ r d, s.record slot = some r → r.state ≠ .paused d) → exec (.pauseExpiry slot) s = .next s) ∧
    (∀ b n, (∀ p a d, (s.branch b).tag n ≠ .cooling p a d) → exec (.coolDeadlineExpiry b n) s = .next s) ∧
    (∀ b, (∀ d, (s.branch b).state ≠ .draining d) → exec (.drainDeadlineExpiry b) s = .next s) ∧
    (∀ place : Fin 16, (∀ n c, s.notices[place.val]? = some n → n.claim ≠ some c) →
      exec (.leaseExpiry place) s = .next s)

/-! ### The Trunk Port -/

/-- Content that is no good frame (not the content of a frame of at most 96 payload bytes with the check of R14) raises
the check errors and does nothing else, and so does a frame given by fields with a longer payload (log entry 10). The
content of a good frame acts as the command of its fields: REQUEST, MANAGE, HOLD and RELEASE, whatever the bits that
their kind ignores; every other kind code is counted unknown (sections 1.1, 1.2, 2.1, 9.1). -/
def Obligations.TrunkContentIsBadOrActsAsItsFields : Prop :=
  ((∀ (s : State) (content : List Byte), s.resetLow = false →
    (∀ kind flags address tag code payload, payload.length ≤ 96 →
      content ≠ trunkBody kind flags address tag code payload ++
        [(trunkCheck (trunkBody kind flags address tag code payload)).extractLsb' 8 8,
         (trunkCheck (trunkBody kind flags address tag code payload)).extractLsb' 0 8]) →
    exec (.trunkFrame content) s = .next (s.bumpTrunk .checkErrors)) ∧
  ∀ (s : State) (address : Address) (flags : BitVec 4) (tag code : Byte) (payload : List Byte),
    s.resetLow = false → 96 < payload.length →
    exec (.request flags address tag code payload) s = .next (s.bumpTrunk .checkErrors) ∧
    exec (.manage address tag code payload) s = .next (s.bumpTrunk .checkErrors)) ∧
  ∀ (s : State) (kind flags : BitVec 4) (address : Address) (tag code : Byte) (payload : List Byte),
    s.resetLow = false → payload.length ≤ 96 →
    let body := trunkBody kind flags address tag code payload
    let content := body ++ [(trunkCheck body).extractLsb' 8 8, (trunkCheck body).extractLsb' 0 8]
    (kind = 1 → exec (.trunkFrame content) s = exec (.request flags address tag code payload) s) ∧
    (kind = 3 → exec (.trunkFrame content) s = exec (.manage address tag code payload) s) ∧
    (kind = 6 → exec (.trunkFrame content) s = exec (.hold address) s) ∧
    (kind = 7 → exec (.trunkFrame content) s = exec (.release address) s) ∧
    (kind ≠ 1 → kind ≠ 3 → kind ≠ 6 → kind ≠ 7 →
      exec (.trunkFrame content) s = .next ((s.bumpTrunk .goodFrames).bumpTrunk .unknownKind))

/-- R150 in full: HOLD and RELEASE to the own address complete in each transmitter state as its table says; to another
address only the good frame is counted. Nothing ends a HELD period but a hard reset and a RELEASE to the own address taken
while RESET# is high, as a command or as the content of its frame (kind 7, at most 96 payload bytes, a good check). -/
def Obligations.HoldAndReleasePaceTheTransmitter : Prop :=
  (∀ (s : State) (address : Address), s.resetLow = false →
    let good := s.bumpTrunk .goodFrames
    (address ≠ s.ownAddress →
      exec (.hold address) s = .next good ∧ exec (.release address) s = .next good) ∧
    (address = s.ownAddress →
      (s.tx = .idle → exec (.hold address) s = .next { good with tx := .held false } ∧
        exec (.release address) s = .next good) ∧
      (s.tx = .sending → exec (.hold address) s = .next { good with tx := .held true } ∧
        exec (.release address) s = .next good) ∧
      (∀ finishing, s.tx = .held finishing → exec (.hold address) s = .next good) ∧
      (s.tx = .held true → exec (.release address) s = .next { good with tx := .sending }) ∧
      (s.tx = .held false → s.toq ≠ [] → exec (.release address) s = .next { good with tx := .sending }) ∧
      (s.tx = .held false → s.toq = [] → exec (.release address) s = .next { good with tx := .idle }))) ∧
  ∀ (c : Instr) (s t : State), exec c s = .next t → s.tx.isHeld = true → t.tx.isHeld = false →
    c = .hardReset ∨
    (s.resetLow = false ∧
      (c = .release s.ownAddress ∨
        ∃ (flags : BitVec 4) (tag code : Byte) (payload : List Byte), payload.length ≤ 96 ∧
          let body := trunkBody 7 flags s.ownAddress tag code payload
          c = .trunkFrame (body ++ [(trunkCheck body).extractLsb' 8 8, (trunkCheck body).extractLsb' 0 8])))

/-- R151: the head leaves, so its place (and for a transaction RESPONSE its budget unit) is free; a HELD transmitter
begins nothing, another begins the new head or becomes IDLE. Nothing else changes. -/
def Obligations.TrunkTransmissionEndFreesTheHead : Prop :=
  ∀ (s : State) (head : OutFrame) (rest : List OutFrame),
    s.resetLow = false → s.toq = head :: rest → s.tx.inFlight = true →
    ∃ t, exec .trunkTransmissionEnd s = .next t ∧
      t = { s with
            toq := rest
            tx := if s.tx = .held true then .held false else if rest = [] then .idle else .sending } ∧
      (head.place = .reserved → t.budgetInUse + 1 = s.budgetInUse ∧ t.poolTaken = s.poolTaken) ∧
      (head.place = .pool → t.poolTaken + 1 = s.poolTaken ∧ t.budgetInUse = s.budgetInUse)

/-! ### The Management Agent -/

/-- R146: a MANAGE frame to the own address enters the Management Input Queue below 4 frames and is otherwise answered
BUSY from a pool place or dropped; to another address it is counted misaddressed. An IDLE Agent takes it in the same
event; with no request in execution TAKE_REQUEST takes the head where a pool place is free, and waits where none is
(section 10.2). -/
def Obligations.ManageFramesQueueAndTheAgentTakesThem : Prop :=
  (∀ (s : State) (address : Address) (tag code : Byte) (payload : List Byte),
    s.resetLow = false → payload.length ≤ 96 →
    let good := s.bumpTrunk .goodFrames
    let frame : ManageRequest := ⟨tag, code, payload⟩
    (address ≠ s.ownAddress →
      exec (.manage address tag code payload) s = .next (good.bumpTrunk .misaddressed)) ∧
    (address = s.ownAddress → s.inq.length < 4 →
      (s.agent = .idle → s.inq = [] →
        exec (.manage address tag code payload) s = .next
          (if framesIn .pool s.toq < 8 then { good with agent := .executing frame }
           else { good with inq := [frame], agent := .waiting })) ∧
      (s.agent ≠ .idle →
        exec (.manage address tag code payload) s = .next { good with inq := s.inq ++ [frame] })) ∧
    (address = s.ownAddress → 4 ≤ s.inq.length →
      exec (.manage address tag code payload) s = .next
        (good.joinOrDrop (buildTrunk kindManageReply s.ownAddress tag Result.busy.code [])))) ∧
  ∀ (s : State), s.resetLow = false → (∀ q, s.agent ≠ .executing q) →
    (s.inq = [] → exec .takeRequest s = .next { s with agent := .idle }) ∧
    (∀ q rest, s.inq = q :: rest → framesIn .pool s.toq < 8 →
      exec .takeRequest s = .next { s with inq := rest, agent := .executing q }) ∧
    (∀ q rest, s.inq = q :: rest → 8 ≤ framesIn .pool s.toq →
      exec .takeRequest s = .next { s with agent := .waiting })

/-- A frame joins at the tail and an IDLE transmitter begins it; a refusal or a BUSY reply takes a pool place where one of
the 8 is free, counting the Agent's reservation, and is otherwise dropped and counted unsent. The reply to a request fills
the reservation: a MANAGE_REPLY from the own address with the request's tag, the result and its payload joins the tail;
then the Agent is IDLE, takes the next head, or waits for a place (sections 1.4, 9.2, 9.3, 10.2). -/
def Obligations.FramesOfEachKindJoinTheOutputQueue : Prop :=
  ((∀ (s : State) (place : Place) (f : TrunkFrame),
    s.join place f =
      { s with toq := s.toq ++ [⟨f, place⟩], tx := if s.tx = .idle then .sending else s.tx }) ∧
  ∀ (s : State) (f : TrunkFrame),
    (framesIn .pool s.toq + s.agent.reservation < 8 → s.joinOrDrop f = s.join .pool f) ∧
    (8 ≤ framesIn .pool s.toq + s.agent.reservation → s.joinOrDrop f = s.bumpTrunk .unsent)) ∧
  ∀ (s : State) (q : ManageRequest) (result : Result) (payload : List Byte), s.agent = .executing q →
    let reply : TrunkFrame :=
      { kind := 4, flags := 0, address := s.ownAddress, tag := q.tag, code := result.code, payload
        check := trunkCheck (0x40 :: s.ownAddress.extractLsb' 8 8 :: s.ownAddress.extractLsb' 0 8 :: q.tag ::
          result.code :: BitVec.ofNat 8 payload.length :: payload) }
    let placed : State :=
      { s with toq := s.toq ++ [⟨reply, .pool⟩], tx := if s.tx = .idle then .sending else s.tx }
    (s.inq = [] → s.answer result payload = { placed with agent := .idle }) ∧
    (∀ next rest, s.inq = next :: rest → framesIn .pool s.toq < 7 →
      s.answer result payload = { placed with inq := rest, agent := .executing next }) ∧
    (∀ next rest, s.inq = next :: rest → 7 ≤ framesIn .pool s.toq →
      s.answer result payload = { placed with agent := .waiting })

/-- R160: the codes and the payload lengths of the table of section 10.3, and the BAD_REQUEST answer, Length 0, to
every request that does not fit it. That a misfit is answered alike under the command of its code and under
UNKNOWN_MANAGEMENT_CODE is the model's choice (log entry 7). -/
def Obligations.MisfitRequestsAreAnsweredBadRequest : Prop :=
  (∀ (code : Byte) (payload : List Byte), lengthAccepted code payload = true ↔
    (code ∈ ([0x01, 0x51] : List Byte) ∧ payload.length = 0) ∨
    (code ∈ ([0x04, 0x11, 0x12, 0x13, 0x21, 0x31, 0x32, 0x34, 0x41, 0x43, 0x50, 0x60, 0x61] : List Byte) ∧
      payload.length = 1) ∨
    (code ∈ ([0x02, 0x03, 0x62] : List Byte) ∧ payload.length = 2) ∨
    (code = 0x42 ∧ payload.length = 3) ∨ (code = 0x40 ∧ payload.length = 6) ∨
    (code = 0x20 ∧ payload.length = 15) ∨ (code = 0x10 ∧ payload.length = 18) ∨
    (code = 0x33 ∧ 1 ≤ payload.length ∧ payload.length ≤ 17) ∨
    (code = 0x30 ∧ ∃ index count records, payload = index :: count :: records ∧
      records.length = 10 * count.toNat)) ∧
  ∀ (s : State) (q : ManageRequest), s.resetLow = false → s.agent = .executing q →
    lengthAccepted q.code q.payload = false →
    exec .unknownManagementCode s = .next (s.answer .badRequest []) ∧
    ∀ c, (c, q.code) ∈ requestCommands → exec c s = .next (s.answer .badRequest [])

/-- R165: the 15 bytes of the status record, and nothing changed but for the reply. -/
def Obligations.StatusReadReportsThePart : Prop :=
  ∀ (s : State), s.Executes 0x01 [] →
    exec .statusRead s = .next (s.answer .done
      [0x04, 0x40, 0x01, s.ownAddress.extractLsb' 8 8, s.ownAddress.extractLsb' 0 8,
       (s.branch 0).state.code, (s.branch 1).state.code, (s.branch 2).state.code, (s.branch 3).state.code,
       BitVec.ofNat 8 s.liveCount, BitVec.ofNat 8 (s.liveCount + framesIn .reserved s.toq),
       if s.tx.isHeld then 1 else 0, BitVec.ofNat 8 s.notices.length, BitVec.ofNat 8 s.threshold.val,
       BitVec.ofNat 8 s.lease])

/-- R167: the group's counters as they stand, each most significant byte first, after the group byte; the clear flag
sets that group alone to 0; a group above 4 or a flag above 1 is refused BAD_VALUE. -/
def Obligations.CounterReadReportsAndClearsOneGroup : Prop :=
  ∀ (s : State) (group clear : Byte), s.Executes 0x02 [group, clear] →
    (4 < group.toNat ∨ 1 < clear.toNat → exec .counterRead s = .next (s.answer .badValue [])) ∧
    (group = 0 → clear.toNat ≤ 1 →
      exec .counterRead s = .next
        (State.answer (if clear = 1 then { s with trunkCounters := Vector.replicate 16 0 } else s) .done
          (0 :: (List.finRange 16).flatMap fun n => bytesOf (look s.trunkCounters n)))) ∧
    (∀ b : Fin 4, group.toNat = b.val + 1 → clear.toNat ≤ 1 →
      exec .counterRead s = .next
        (State.answer
          (if clear = 1 then s.setBranch b { s.branch b with counters := Vector.replicate 10 0 } else s) .done
          (group :: (List.finRange 10).flatMap fun n => bytesOf (look (s.branch b).counters n))))

/-- R154: CONFLICT where a non-EMPTY entry, VALID or QUARANTINED, holds the address; otherwise DONE, the reply built
with the old address and the new one in force after it. -/
def Obligations.SetOwnAddressRepliesFirst : Prop :=
  ∀ (s : State) (a1 a0 : Byte), s.Executes 0x03 [a1, a0] →
    (∀ i r, (s.route i).live = some r → r.config.globalAddress = a1 ++ a0 →
      exec .setOwnAddress s = .next (s.answer .conflict [])) ∧
    ((∀ i r, (s.route i).live = some r → r.config.globalAddress ≠ a1 ++ a0) →
      exec .setOwnAddress s = .next { s.answer .done [] with ownAddress := a1 ++ a0 })

/-- SOFT_RESET, scope TRAFFIC (R169 with R102, R129, R144, R157): the input queue, the records and the waiting trunk
frames are discarded, the frame in transmission kept; DRAINING becomes DISABLED, IN_USE tags cool from the reset; the
reply joins behind the frame kept, and a fresh ATTENTION frame behind it where the condition holds. Every other field
is as it was. That a waiting TRANSACTION_ABORT is discarded with the rest is the model's choice (log entry 15). -/
def Obligations.TrafficResetDiscardsTheWork : Prop :=
  ∀ (s : State), s.Executes 0x04 [1] →
    ∃ t tag, s.agent = .executing ⟨tag, 0x04, [1]⟩ ∧ exec .softResetTraffic s = .next t ∧
      t = { s with
            inq := [], agent := .idle, attentionPending := false, records := t.records, branches := t.branches
            tx := if s.tx = .idle then .sending else s.tx
            toq := (if s.tx.inFlight then s.toq.take 1 else []) ++
              ⟨buildTrunk kindManageReply s.ownAddress tag Result.done.code [1], .pool⟩ ::
              (if s.attentionCondition then
                [⟨buildTrunk kindAttention s.ownAddress 0 0
                  [BitVec.ofNat 8 s.callingCount, BitVec.ofNat 8 s.callingSeverity], .pool⟩]
              else []) } ∧
      (∀ i, t.record i = none) ∧
      ∀ b, t.branch b =
          { s.branch b with
            state := if (s.branch b).state.isDraining then .disabled else (s.branch b).state
            urgentQueue := [], normalQueue := [], tags := (t.branch b).tags } ∧
        ∀ n, (t.branch b).tag n = (s.branch b).cooled s.now ((s.branch b).tag n)

/-- SOFT_RESET, scope FULL (R169 with R26, R45, R68, R129, R144, R157), and a scope out of range: FULL leaves the
hard-reset values but for the own address, the transmitter, the frames in transmission and its reply; a scope of 0 or
3 to 255 is answered BAD_VALUE and resets nothing. That a waiting TRANSACTION_ABORT is discarded with the rest is the
model's choice (log entry 15). -/
def Obligations.FullResetKeepsOnlyTheOwnAddress : Prop :=
  (∀ (s : State), s.Executes 0x04 [2] →
    ∃ t tag, s.agent = .executing ⟨tag, 0x04, [2]⟩ ∧ exec .softResetFull s = .next t ∧
      t = { State.reset with
            resetLow := s.resetLow, now := s.now, ownAddress := s.ownAddress, branches := t.branches
            tx := if s.tx = .idle then .sending else s.tx
            toq := (if s.tx.inFlight then s.toq.take 1 else []) ++
              [⟨buildTrunk kindManageReply s.ownAddress tag Result.done.code [2], .pool⟩]
            pending := s.pending } ∧
      ∀ b, t.branch b = { resetPort with tx := (s.branch b).tx }) ∧
  ∀ (s : State) (scope : Byte), s.Executes 0x04 [scope] → scope ≠ 1 → scope ≠ 2 →
    exec .softResetBadValue s = .next (s.answer .badValue [])

/-! ### The Route Table -/

/-- R32 and R33: a record out of the ranges of R11 is refused BAD_VALUE; one in range whose global address is the own
address, or whose global address or branch and local address another non-EMPTY entry holds, CONFLICT; any other
replaces the entry at its index: VALID, failure count 0, the generation one on, from 255 to 0. -/
def Obligations.RouteWriteTestsThenReplacesTheEntry : Prop :=
  (∀ (s : State) (index b0 a1 a0 branch local' ops rr rw rx profile t1 t0 retry limit severity b15 b16 : Byte),
    s.Executes 0x10 [index, b0, a1, a0, branch, local', ops, rr, rw, rx, profile, t1, t0, retry, limit, severity,
      b15, b16] →
    (127 < index.toNat ∨ 3 < branch.toNat ∨ local' = 0 ∨ 126 < local'.toNat ∨ 7 < ops.toNat ∨
      (∃ r ∈ [rr, rw, rx], 31 < r.toNat ∧ r ≠ 0xFF) ∨ 3 < profile.toNat ∨ (t1 = 0 ∧ t0 = 0) ∨ 7 < retry.toNat ∨
      7 < severity.toNat) →
    exec .routeWrite s = .next (s.answer .badValue [])) ∧
  ∀ (s : State) (i : Fin 128) (c : RouteConfig) (b0 b15 b16 : Byte),
    s.Executes 0x10 (indexByte i :: c.record b0 b15 b16) →
    1 ≤ c.localAddress.toNat → c.localAddress.toNat ≤ 126 → c.timeout ≠ 0 →
    (c.globalAddress = s.ownAddress ∨ (∃ j r, j ≠ i ∧ (s.route j).live = some r ∧
        (r.config.globalAddress = c.globalAddress ∨
          (r.config.branch = c.branch ∧ r.config.localAddress = c.localAddress))) →
      exec .routeWrite s = .next (s.answer .conflict [])) ∧
    (c.globalAddress ≠ s.ownAddress → (∀ j r, j ≠ i → (s.route j).live = some r →
        r.config.globalAddress ≠ c.globalAddress ∧
          ¬(r.config.branch = c.branch ∧ r.config.localAddress = c.localAddress)) →
      exec .routeWrite s = .next
        ((s.setRoute i { generation := (s.route i).generation + 1
                         live := some { config := c, quarantined := false, failures := 0 } }).answer .done
          [(s.route i).generation + 1]))

/-- R34, R35 and R36: a read reports the 17 bytes of the entry, EMPTY or not, and changes nothing; a delete makes a
non-EMPTY entry EMPTY with its generation one on and answers that generation; a reinstatement makes it VALID with count 0,
its configuration and generation kept, and answers the state it held; of an EMPTY entry both are NOT_FOUND; an index above
127 is BAD_VALUE. -/
def Obligations.RouteReadDeleteAndReinstate : Prop :=
  (∀ (s : State) (index : Byte), s.Executes 0x11 [index] →
    (127 < index.toNat → exec .routeRead s = .next (s.answer .badValue [])) ∧
    ∀ i : Fin 128, index.toNat = i.val →
      ((s.route i).live = none → exec .routeRead s = .next (s.answer .done
        [0, 0, 0, 0, 0, 0, 0xFF, 0xFF, 0xFF, 0, 0, 0, 0, 0, 0, 0, (s.route i).generation])) ∧
      ∀ r, (s.route i).live = some r → exec .routeRead s = .next (s.answer .done
        (r.config.record (if r.quarantined then 2 else 1) r.failures (s.route i).generation))) ∧
  (∀ (s : State) (index : Byte), s.Executes 0x12 [index] →
    (127 < index.toNat → exec .routeDelete s = .next (s.answer .badValue [])) ∧
    ∀ i : Fin 128, index.toNat = i.val →
      ((s.route i).live = none → exec .routeDelete s = .next (s.answer .notFound [])) ∧
      ∀ r, (s.route i).live = some r →
        exec .routeDelete s = .next
          ((s.setRoute i { generation := (s.route i).generation + 1, live := none }).answer .done
            [(s.route i).generation + 1])) ∧
  ∀ (s : State) (index : Byte), s.Executes 0x13 [index] →
    (127 < index.toNat → exec .routeReinstate s = .next (s.answer .badValue [])) ∧
    ∀ i : Fin 128, index.toNat = i.val →
      ((s.route i).live = none → exec .routeReinstate s = .next (s.answer .notFound [])) ∧
      ∀ r, (s.route i).live = some r →
        exec .routeReinstate s = .next
          ((s.setRoute i { generation := (s.route i).generation
                           live := some { config := r.config, quarantined := false, failures := 0 } }).answer .done
            [if r.quarantined then 2 else 1])

/-- Both lookups find exactly the non-EMPTY entry, VALID or QUARANTINED, that holds the key, where the table is as R28
says; the own address is found in none (section 3.2). -/
def Obligations.LookupsFindTheOneEntry : Prop :=
  ∀ (s : State), s.RoutesUnique →
    (∀ address i r, s.forwardLookup address = some (i, r) ↔
      (s.route i).live = some r ∧ r.config.globalAddress = address) ∧
    (∀ address, s.forwardLookup address = none ↔
      ∀ i r, (s.route i).live = some r → r.config.globalAddress ≠ address) ∧
    (∀ b localAddress i r, s.reverseLookup b localAddress = some (i, r) ↔
      (s.route i).live = some r ∧ r.config.branch = b ∧ r.config.localAddress = localAddress) ∧
    (∀ b localAddress, s.reverseLookup b localAddress = none ↔
      ∀ i r, (s.route i).live = some r → ¬(r.config.branch = b ∧ r.config.localAddress = localAddress)) ∧
    s.forwardLookup s.ownAddress = none

/-- Route feedback (section 3.6 and 3.7): a report is accepted by a non-EMPTY entry of the snapshot's generation and
dropped by any other. A matched response sets the count to 0 and leaves the state; a timeout ending raises the count,
held at 255, and where a VALID entry with a nonzero limit reaches it, quarantines the entry and posts the notice of
severity 5. Configuration and generation stay. -/
def Obligations.RouteFeedbackCountsAndQuarantines : Prop :=
  ∀ (s : State) (snap : Snapshot),
    ((∀ r, (s.route snap.routeIndex).live = some r →
        (s.route snap.routeIndex).generation ≠ snap.routeGeneration) →
      s.reportMatched snap = s ∧ s.reportTimeout snap = s) ∧
    ∀ r, (s.route snap.routeIndex).live = some r →
      (s.route snap.routeIndex).generation = snap.routeGeneration →
      let count : BitVec 8 := if r.failures = 255 then 255 else r.failures + 1
      let entry (r' : LiveRoute) : State := s.setRoute snap.routeIndex ⟨snap.routeGeneration, some r'⟩
      s.reportMatched snap = entry { r with failures := 0 } ∧
      (r.quarantined = true ∨ r.config.quarantineLimit = 0 ∨ count.toNat < r.config.quarantineLimit.toNat →
        s.reportTimeout snap = entry { r with failures := count }) ∧
      (r.quarantined = false → r.config.quarantineLimit ≠ 0 → r.config.quarantineLimit.toNat ≤ count.toNat →
        s.reportTimeout snap =
          (entry { r with failures := count, quarantined := true }).post
            { source := .routeQuarantined snap.routeIndex, severity := 5
              globalAddress := some r.config.globalAddress, repeats := 1, data := [], forced := false
              claim := none, previousId := none })

/-! ### Check profiles, recipes and constant blocks -/

/-- R20, and the condition of section 4.6: a profile is in use exactly while a live record's snapshot names it or a
COOLING tag of any branch holds it, a recipe exactly while a live record's snapshot names it. -/
def Obligations.InUseMeansALiveRecordOrACoolingTag : Prop :=
  ∀ (s : State),
    (∀ p, s.profileInUse p = true ↔
      (∃ i r, s.record i = some r ∧ r.snapshot.profile = p) ∨
        ∃ b n a d, (s.branch b).tag n = .cooling p a d) ∧
    ∀ k, s.recipeInUse k = true ↔ ∃ i r, s.record i = some r ∧ r.snapshot.recipe = some k

/-- R21 and R25: PROFILE_WRITE's six tests in their order, and the six parameters replaced where all pass; PROFILE_READ
reports the parameters and the two counts of R20 and changes nothing; another payload length is BAD_REQUEST. -/
def Obligations.ProfileWriteAndRead : Prop :=
  ((∀ (s : State) (index width flags p3 p2 p1 p0 i3 i2 i1 i0 x3 x2 x1 x0 : Byte),
    s.Executes 0x20 [index, width, flags, p3, p2, p1, p0, i3, i2, i1, i0, x3, x2, x1, x0] →
    let polynomial : BitVec 32 := p3 ++ p2 ++ p1 ++ p0
    let initial : BitVec 32 := i3 ++ i2 ++ i1 ++ i0
    let finalXor : BitVec 32 := x3 ++ x2 ++ x1 ++ x0
    (3 < index.toNat ∨ width ∉ ([8, 16, 24, 32] : List Byte) ∨ 3 < flags.toNat ∨
        2 ^ width.toNat ≤ polynomial.toNat ∨ 2 ^ width.toNat ≤ initial.toNat ∨ 2 ^ width.toNat ≤ finalXor.toNat ∨
        polynomial.getLsbD 0 = false →
      exec .profileWrite s = .next (s.answer .badValue [])) ∧
    ∀ (p : Fin 4) (w : Width), index.toNat = p.val → width.toNat = w.bits → flags.toNat ≤ 3 →
      polynomial.toNat < 2 ^ w.bits → initial.toNat < 2 ^ w.bits → finalXor.toNat < 2 ^ w.bits →
      polynomial.getLsbD 0 = true →
      (s.profileInUse p = true → exec .profileWrite s = .next (s.answer .inUse [])) ∧
      (s.profileInUse p = false → exec .profileWrite s = .next
        ((s.setProfile p ⟨w, polynomial, initial, flags.getLsbD 0, flags.getLsbD 1, finalXor⟩).answer .done []))) ∧
  ∀ (s : State) (index : Byte), s.Executes 0x21 [index] →
    (3 < index.toNat → exec .profileRead s = .next (s.answer .badValue [])) ∧
    ∀ p : Fin 4, index.toNat = p.val →
      exec .profileRead s = .next (s.answer .done
        ([index, BitVec.ofNat 8 (s.profile p).width.bits,
          (if (s.profile p).reflectOut then 2 else 0) + if (s.profile p).reflectIn then 1 else 0]
          ++ bytesOf (s.profile p).polynomial ++ bytesOf (s.profile p).initial ++ bytesOf (s.profile p).finalXor
          ++ [BitVec.ofNat 8 ((List.finRange 32).filter fun i =>
                (s.record i).any fun r => r.snapshot.profile == p).length,
              BitVec.ofNat 8 ((List.finRange 4).map fun b => ((List.finRange 16).filter fun n =>
                ((s.branch b).tag n).coolsProfile p).length).sum]))) ∧
  ∀ (s : State) (payload : List Byte),
    (s.Executes 0x20 payload → payload.length ≠ 15 → exec .profileWrite s = .next (s.answer .badRequest [])) ∧
    (s.Executes 0x21 payload → payload.length ≠ 1 → exec .profileRead s = .next (s.answer .badRequest []))

/-- R54 and R55: the index and step-count tests answer BAD_VALUE with 0xFF; the first step whose record carries no step
in range, or that takes the running capture total past 64, answers BAD_VALUE with its index; a recipe in use IN_USE;
otherwise the slot is LOADED with the steps, whatever the unused bytes held, and its two lengths are answered. The needed
request length is the smallest payload length that gives every ISSUE step a whole slice, at most 127; the fixed capture
total is the sum of the capture lengths of 1 to 64 (section 4.3). -/
def Obligations.RecipeWriteTestsThenLoadsTheSlot : Prop :=
  (∀ (steps : List Step),
    (∀ n, neededLength steps ≤ n ↔
      ∀ op block offset slice capture, Step.issue op block offset slice capture ∈ steps →
        match slice with
        | .bytes m => offset.val + m.val ≤ n
        | .all => offset.val ≤ n) ∧
    neededLength steps ≤ 127 ∧
    captureTotal steps = (steps.filterMap fun
      | .issue _ _ _ _ (.bytes m) => some m.val
      | _ => none).sum) ∧
  (∀ (s : State) (index count : Byte) (records : List Byte),
    s.Executes 0x30 (index :: count :: records) → records.length = 10 * count.toNat →
    (31 < index.toNat ∨ count = 0 ∨ 8 < count.toNat →
      exec .recipeWrite s = .next (s.answer .badValue [0xFF])) ∧
    ∀ (good : List Step) (before : List (List Byte)) (bad after : List Byte),
      index.toNat ≤ 31 → count.toNat ≤ 8 → records = before.flatten ++ bad ++ after → bad.length = 10 →
      List.Forall₂ Step.WrittenAs good before → (∀ step ∈ good, step.inRange = true) → captureTotal good ≤ 64 →
      (∀ step, step.WrittenAs bad → step.inRange = true → 64 < captureTotal (good ++ [step])) →
      exec .recipeWrite s = .next (s.answer .badValue [BitVec.ofNat 8 good.length])) ∧
  ∀ (s : State) (k : Fin 32) (steps : List Step) (records : List (List Byte)),
    s.Executes 0x30 (indexByte k :: BitVec.ofNat 8 steps.length :: records.flatten) →
    1 ≤ steps.length → steps.length ≤ 8 → List.Forall₂ Step.WrittenAs steps records →
    (∀ step ∈ steps, step.inRange = true) → captureTotal steps ≤ 64 →
    (s.recipeInUse k = true → exec .recipeWrite s = .next (s.answer .inUse [])) ∧
    (s.recipeInUse k = false → exec .recipeWrite s = .next
      ((s.setRecipe k (some ⟨steps, neededLength steps, captureTotal steps⟩)).answer .done
        [BitVec.ofNat 8 (neededLength steps), BitVec.ofNat 8 (captureTotal steps)]))

/-- R56: RECIPE_READ reports the slot with its steps, each in its 10 bytes with the unused ones 0, and changes nothing; RECIPE_CLEAR makes a
LOADED slot EMPTY, refuses it IN_USE while a live record executes it, and answers NOT_FOUND for an EMPTY one. R47 and R48:
CONST_WRITE replaces the block's content by the bytes carried and is never refused IN_USE; CONST_READ reports index,
length and content; an index above 31 is BAD_VALUE, another payload length BAD_REQUEST. A frame already built keeps its
bytes, for nothing but the block and the reply changes. -/
def Obligations.RecipesAndBlocksAreReadClearedAndWritten : Prop :=
  (((let opByte (op : Op) : Byte :=
       match op with
       | .read => 1
       | .write => 2
       | .exchange => 3
     let blockByte (block : Option (Fin 32)) : Byte :=
       match block with
       | some k => BitVec.ofNat 8 k.val
       | none => 0xFF
     let lengthByte (extent : Extent) : Byte :=
       match extent with
       | .bytes n => BitVec.ofNat 8 n.val
       | .all => 255
     ∀ (step : Step), step.WrittenAs step.bytes ∧ step.bytes =
       match step with
       | .issue op block offset slice capture =>
         [1, opByte op, blockByte block, BitVec.ofNat 8 offset.val, lengthByte slice, lengthByte capture, 0, 0, 0, 0]
       | .await op block index mask expected limit spacing =>
         [2, opByte op, blockByte block, BitVec.ofNat 8 index.val, mask, expected, limit, spacing.extractLsb' 8 8,
           spacing.extractLsb' 0 8, 0]
       | .pause duration =>
         [3, duration.extractLsb' 8 8, duration.extractLsb' 0 8, 0, 0, 0, 0, 0, 0, 0]) ∧
  ∀ (s : State) (index : Byte),
    (s.Executes 0x31 [index] →
      (31 < index.toNat → exec .recipeRead s = .next (s.answer .badValue [])) ∧
      ∀ k : Fin 32, index.toNat = k.val →
        let live := BitVec.ofNat 8 ((List.finRange 32).filter fun i =>
          (s.record i).any fun r => r.snapshot.recipe == some k).length
        (s.recipe k = none → exec .recipeRead s = .next (s.answer .done [index, 0, 0, 0, live, 0])) ∧
        ∀ r, s.recipe k = some r → exec .recipeRead s = .next (s.answer .done
          ([index, 1, BitVec.ofNat 8 r.neededLength, BitVec.ofNat 8 r.captureTotal, live,
            BitVec.ofNat 8 r.steps.length] ++ (r.steps.map Step.bytes).flatten))) ∧
    (s.Executes 0x32 [index] →
      (31 < index.toNat → exec .recipeClear s = .next (s.answer .badValue [])) ∧
      ∀ k : Fin 32, index.toNat = k.val →
        (s.recipe k = none → exec .recipeClear s = .next (s.answer .notFound [])) ∧
        (s.recipe k ≠ none → s.recipeInUse k = true → exec .recipeClear s = .next (s.answer .inUse [])) ∧
        (s.recipe k ≠ none → s.recipeInUse k = false →
          exec .recipeClear s = .next ((s.setRecipe k none).answer .done [])))) ∧
  ∀ (s : State) (index : Byte) (content : List Byte),
    (s.Executes 0x33 (index :: content) → content.length ≤ 16 →
      (31 < index.toNat → exec .constWrite s = .next (s.answer .badValue [])) ∧
      ∀ k : Fin 32, index.toNat = k.val →
        exec .constWrite s = .next ((s.setBlock k content).answer .done [])) ∧
    (s.Executes 0x34 [index] →
      (31 < index.toNat → exec .constRead s = .next (s.answer .badValue [])) ∧
      ∀ k : Fin 32, index.toNat = k.val →
        exec .constRead s = .next
          (s.answer .done ([index, BitVec.ofNat 8 (s.block k).length] ++ s.block k)))) ∧
  ∀ (s : State) (payload : List Byte),
    (s.Executes 0x31 payload → payload.length ≠ 1 → exec .recipeRead s = .next (s.answer .badRequest [])) ∧
    (s.Executes 0x32 payload → payload.length ≠ 1 → exec .recipeClear s = .next (s.answer .badRequest [])) ∧
    (s.Executes 0x33 payload → payload.length = 0 ∨ 17 < payload.length →
      exec .constWrite s = .next (s.answer .badRequest [])) ∧
    (s.Executes 0x34 payload → payload.length ≠ 1 → exec .constRead s = .next (s.answer .badRequest []))

/-! ### Admission -/

/-- R70: the checks in their order, the first that fails giving the refusal: the good frame and the refusal counted, a
RESPONSE with failing step 0xFF and node code 0 in a pool place or dropped (R76), nothing else changed. -/
def Obligations.AdmissionRefusesByTheFirstFailingCheck : Prop :=
  ∀ (s : State) (flags : BitVec 4) (address : Address) (tag opCode : Byte) (payload : List Byte),
    s.resetLow = false → payload.length ≤ 96 →
    let refused (status : RefusalStatus) : Prop :=
      exec (.request flags address tag opCode payload) s = .next
        (((s.bumpTrunk .goodFrames).bumpTrunk status.counter).joinOrDrop
          (buildTrunk kindResponse address tag status.code [0xFF, 0]))
    (63 < tag.toNat ∨ opCode = 0 ∨ 3 < opCode.toNat ∨ 64 < payload.length ∨ flags.extractLsb' 0 3 ≠ 0 →
      refused .malformed) ∧
    ∀ op : Op, tag.toNat ≤ 63 → opCode = op.code → payload.length ≤ 64 → flags.extractLsb' 0 3 = 0 →
      (s.forwardLookup address = none → refused .noRoute) ∧
      ∀ i r, s.forwardLookup address = some (i, r) →
        (r.quarantined = true → refused .unreachable) ∧
        (r.quarantined = false → r.config.permits op = false → refused .denied) ∧
        (r.quarantined = false → r.config.permits op = true →
          s.recipeOf (r.config.recipeFor op) op = none → refused .noRecipe) ∧
        ∀ recipe, r.quarantined = false → r.config.permits op = true →
          s.recipeOf (r.config.recipeFor op) op = some recipe →
          (payload.length < recipe.neededLength → refused .malformed) ∧
          (recipe.neededLength ≤ payload.length →
            ((s.branch r.config.branch).state = .disabled ∨ (s.branch r.config.branch).state = .faulted →
              refused .branchDown) ∧
            ((s.branch r.config.branch).state.isDraining = true → refused .branchDraining) ∧
            ((s.branch r.config.branch).state = .enabled →
              ((∃ j q, s.record j = some q ∧ q.trunkTag.val = tag.toNat) → refused .tagInUse) ∧
              ((∀ j q, s.record j = some q → q.trunkTag.val ≠ tag.toNat) → 32 ≤ s.budgetInUse → refused .busy)))

/-- R77 and R78: a request that passes becomes a record in the lowest free slot with the fields of R77, QUEUED at the
tail of its class at a first step of ISSUE, AWAIT or DIRECT, PAUSED at a first step of PAUSE; the good frame is counted
and nothing else changes. -/
def Obligations.AdmissionCreatesTheRecord : Prop :=
  ∀ (s : State) (flags : BitVec 4) (address : Address) (tag : Fin 64) (op : Op) (payload : List Byte)
    (i : Fin 128) (c : RouteConfig) (failures : BitVec 8) (recipe : Recipe) (first : Step) (slot : Fin 32),
    s.resetLow = false → payload.length ≤ 64 → flags.extractLsb' 0 3 = 0 →
    s.forwardLookup address = some (i, ⟨c, false, failures⟩) → c.permits op = true →
    s.recipeOf (c.recipeFor op) op = some recipe → recipe.steps[0]? = some first →
    recipe.neededLength ≤ payload.length → (s.branch c.branch).state = .enabled →
    (∀ j q, s.record j = some q → q.trunkTag ≠ tag) → s.budgetInUse < 32 →
    s.record slot = none → (∀ j, j < slot → s.record j ≠ none) →
    let good := s.bumpTrunk .goodFrames
    let created (state : RecordState) : Record :=
      { state, trunkTag := tag, globalAddress := address, urgent := flags.getLsbD 3, op
        snapshot := ⟨i, (s.route i).generation, c.branch, c.localAddress, c.profile, c.timeout, c.retryLimit,
          c.recipeFor op⟩
        payload, step := 0, attempts := 0, retries := 0, accumulator := [] }
    exec (.request flags address (indexByte tag) op.code payload) s = .next
      (match first with
       | .pause d => good.setRecord slot (some (created (.paused (s.now + d.toNat))))
       | _ => (good.setRecord slot (some (created .queued))).setBranch c.branch
           (if flags.getLsbD 3 then
             { s.branch c.branch with urgentQueue := (s.branch c.branch).urgentQueue ++ [slot] }
            else { s.branch c.branch with normalQueue := (s.branch c.branch).normalQueue ++ [slot] }))

/-! ### The Transaction Table -/

/-- R92 and R93: an ending writes the RESPONSE in the reserved place, counts it, frees the record, for TIMEOUT reports
to the route, and then lets a DRAINING branch without a live record become DISABLED with the unforced notice (R110). -/
def Obligations.EndingWritesTheResponseAndFreesTheRecord : Prop :=
  ∀ (s : State) (slot : Fin 32) (r : Record) (e : Ending),
    let response := buildTrunk kindResponse r.globalAddress (indexByte r.trunkTag) e.code
      ((if e = .ok then 0xFF else BitVec.ofNat 8 r.step) ::
        (match e with | .nodeError node => node | _ => 0) :: r.accumulator)
    let freed := ((s.join .reserved response).bumpTrunk
      (if e = .ok then .completedOk else .completedWithFailure)).setRecord slot none
    let ended := if e = .timeout then freed.reportTimeout r.snapshot else freed
    let b := r.snapshot.branch
    ((∃ d, (s.branch b).state = .draining d) → ended.liveOn b = 0 →
      s.endTransaction slot r e = (ended.setBranch b { ended.branch b with state := .disabled }).post
        { source := .branchDrained b, severity := 2, globalAddress := none, repeats := 1, data := []
          forced := false, claim := none, previousId := none }) ∧
    ((∀ d, (s.branch b).state ≠ .draining d) ∨ ended.liveOn b ≠ 0 → s.endTransaction slot r e = ended)

/-- R94: a branch event ends every live record of the branch in slot order: each is freed, its RESPONSE with the imposed
status joins in a reserved place, a QUEUED one leaves the Issue Queue and the tag of an ISSUED one cools. Each counts as
completed with failure. Nothing else changes; no route and no record of another branch is reached. -/
def Obligations.BranchEventEndsItsRecordsInSlotOrder : Prop :=
  ∀ (s : State) (b : Fin 4) (e : Ending), e = .branchFault ∨ e = .branchDown ∨ e = .aborted →
    let t := s.endBranchRecords b e
    let ends (i : Fin 32) : Option Record := (s.record i).filter fun r => r.snapshot.branch == b
    t = { s with
          toq := s.toq ++ (List.finRange 32).filterMap fun i => (ends i).map fun r =>
            ⟨buildTrunk kindResponse r.globalAddress (indexByte r.trunkTag) e.code
              (BitVec.ofNat 8 r.step :: 0 :: r.accumulator), .reserved⟩
          tx := if s.tx = .idle ∧ (List.finRange 32).any (fun i => (ends i).isSome) then .sending else s.tx
          records := t.records, branches := t.branches, trunkCounters := t.trunkCounters } ∧
    (∀ i, t.record i = if (ends i).isSome then none else s.record i) ∧
    (∀ n, look t.trunkCounters n =
      if n = TrunkCounter.completedWithFailure.index then
        (satInc^[((List.finRange 32).filter fun i => (ends i).isSome).length]) (look s.trunkCounters n)
      else look s.trunkCounters n) ∧
    (∀ d, d ≠ b → t.branch d = s.branch d) ∧
    t.branch b =
      { s.branch b with
        urgentQueue := (s.branch b).urgentQueue.filter fun i => !(ends i).any Record.isQueued
        normalQueue := (s.branch b).normalQueue.filter fun i => !(ends i).any Record.isQueued
        tags := (t.branch b).tags } ∧
    ∀ n,
      ((∃ i r d, ends i = some r ∧ r.state = .issued n d) →
        (t.branch b).tag n = (s.branch b).cooled s.now ((s.branch b).tag n)) ∧
      ((∀ i r d, ends i = some r → r.state ≠ .issued n d) → (t.branch b).tag n = (s.branch b).tag n)

/-- R96 and R99: an abort undoes what the record's state asks for, ends it ABORTED before its own reply, and answers the
state the record held; PENDING_READ lists the live records in slot order, three bytes each, and changes nothing;
another payload length is BAD_REQUEST. -/
def Obligations.AbortAndPendingRead : Prop :=
  ((∀ (s : State) (tag : Byte), s.Executes 0x50 [tag] →
    (63 < tag.toNat → exec .transactionAbort s = .next (s.answer .badValue [])) ∧
    (tag.toNat ≤ 63 → (∀ i r, s.record i = some r → r.trunkTag.val ≠ tag.toNat) →
      exec .transactionAbort s = .next (s.answer .notFound [])) ∧
    ∀ slot r, s.record slot = some r → r.trunkTag.val = tag.toNat →
      (∀ i q, s.record i = some q → q.trunkTag = r.trunkTag → i = slot) →
      let b := r.snapshot.branch
      let port := s.branch b
      let ended (u : State) (code : Byte) : Prop :=
        exec .transactionAbort s = .next ((u.endTransaction slot r .aborted).answer .done [code])
      (r.state = .queued → ended (s.setBranch b
        { port with urgentQueue := port.urgentQueue.filter (· != slot)
                    normalQueue := port.normalQueue.filter (· != slot) }) 1) ∧
      (∀ n d, r.state = .issued n d → ended (s.setTag b n (port.cooled s.now (port.tag n))) 2) ∧
      (∀ d, r.state = .spacing d → ended s 3) ∧
      (∀ d, r.state = .paused d → ended s 4)) ∧
  ∀ (s : State), s.Executes 0x51 [] →
    exec .pendingRead s = .next (s.answer .done
      ((List.finRange 32).flatMap fun i =>
        match s.record i with
        | some r =>
          [indexByte r.trunkTag,
           BitVec.ofNat 8 (16 * (match r.state with
             | .queued => 1
             | .issued _ _ => 2
             | .spacing _ => 3
             | .paused _ => 4) + r.snapshot.branch.val),
           BitVec.ofNat 8 (16 * r.step + r.retries)]
        | none => []))) ∧
  ∀ (s : State) (payload : List Byte),
    (s.Executes 0x50 payload → payload.length ≠ 1 → exec .transactionAbort s = .next (s.answer .badRequest [])) ∧
    (s.Executes 0x51 payload → payload.length ≠ 0 → exec .pendingRead s = .next (s.answer .badRequest []))

/-- R86: a record at its last step completes OK with its step index unmoved; otherwise it takes up the next step: QUEUED
at the tail of its class for ISSUE and, attempts 0, for AWAIT; PAUSED for PAUSE. -/
def Obligations.AdvanceTakesUpTheNextStep : Prop :=
  ∀ (s : State) (slot : Fin 32) (r : Record),
    ((s.stepsOf r).length ≤ r.step + 1 → s.advance slot r = s.endTransaction slot r .ok) ∧
    ∀ step, (s.stepsOf r)[r.step + 1]? = some step →
      let b := r.snapshot.branch
      let queued (r' : Record) : State := (s.setRecord slot (some { r' with state := .queued })).setBranch b
        (if r.urgent then { s.branch b with urgentQueue := (s.branch b).urgentQueue ++ [slot] }
         else { s.branch b with normalQueue := (s.branch b).normalQueue ++ [slot] })
      (∀ op block offset slice capture, step = .issue op block offset slice capture →
        s.advance slot r = queued { r with step := r.step + 1 }) ∧
      (∀ op block index mask expected limit spacing, step = .await op block index mask expected limit spacing →
        s.advance slot r = queued { r with step := r.step + 1, attempts := 0 }) ∧
      ∀ d, step = .pause d →
        s.advance slot r =
          s.setRecord slot (some { r with step := r.step + 1, state := .paused (s.now + d.toNat) })

/-- R64 to R67: how a matched answer is judged. A nonzero status is NODE_ERROR at any step; an ISSUE step captures by
its capture length, SHORT_DATA before STEP_OVERSIZE; an AWAIT step compares the masked byte, repeats below its limit and
is exhausted at it. A success advances with the captured bytes appended; nothing else is appended. -/
def Obligations.AnswersAreJudgedByTheStep : Prop :=
  ∀ (s : State) (slot : Fin 32) (r : Record) (status : Byte) (payload : List Byte),
    let t := s.reportMatched r.snapshot
    let fails (e : Ending) : Prop := s.takeAnswer slot r status payload = t.endTransaction slot r e
    let succeeds (bytes : List Byte) : Prop :=
      s.takeAnswer slot r status payload = t.advance slot { r with accumulator := r.accumulator ++ bytes }
    (status ≠ 0 → fails (.nodeError status)) ∧
    (status = 0 →
      (∀ op block offset slice capture, s.stepOf r = some (.issue op block offset slice capture) →
        (∀ n, capture = .bytes n →
          (payload.length < n.val → fails .shortData) ∧
          (n.val ≤ payload.length → 64 < r.accumulator.length + n.val → fails .stepOversize) ∧
          (n.val ≤ payload.length → r.accumulator.length + n.val ≤ 64 → succeeds (payload.take n.val))) ∧
        (capture = .all →
          (64 < r.accumulator.length + payload.length → fails .stepOversize) ∧
          (r.accumulator.length + payload.length ≤ 64 → succeeds payload))) ∧
      (∀ op block index mask expected limit spacing,
        s.stepOf r = some (.await op block index mask expected limit spacing) →
        (payload.length ≤ index.val → fails .shortData) ∧
        ∀ byte, payload[index.val]? = some byte →
          (byte &&& mask = expected → succeeds []) ∧
          (byte &&& mask ≠ expected → r.attempts + 1 < limit.toNat →
            s.takeAnswer slot r status payload = t.setRecord slot
              (some { r with attempts := r.attempts + 1, state := .spacing (s.now + spacing.toNat) })) ∧
          (byte &&& mask ≠ expected → limit.toNat ≤ r.attempts + 1 → fails .awaitExhausted)))

/-- R88 with R122: the timeout is counted, the tag cools from the expiry, and the record is queued again at its step
with one retry more, or ends TIMEOUT where its retries are spent. That the model's time base moves to the deadline is its
own choice (log entry 1). -/
def Obligations.ExchangeTimeoutRetriesOrEnds : Prop :=
  ∀ (s : State) (b : Fin 4) (n : Fin 16) (slot : Fin 32) (r : Record) (deadline : Time),
    s.resetLow = false → s.record slot = some r → r.snapshot.branch = b → r.state = .issued n (some deadline) →
    (∀ i q d, s.record i = some q → q.snapshot.branch = b → q.state = .issued n d → i = slot) →
    let now := max s.now deadline
    let port := (s.branch b).bump .timeouts
    let cooling := { s with now := now }.setBranch b (port.setTag n (port.cooled now (port.tag n)))
    (r.retries < r.snapshot.retryLimit.val →
      exec (.exchangeTimerExpiry b n) s = .next
        ((cooling.setRecord slot (some { r with retries := r.retries + 1, state := .queued })).setBranch b
          (if r.urgent then
            { cooling.branch b with urgentQueue := (s.branch b).urgentQueue ++ [slot] }
           else { cooling.branch b with normalQueue := (s.branch b).normalQueue ++ [slot] }))) ∧
    (r.snapshot.retryLimit.val ≤ r.retries →
      exec (.exchangeTimerExpiry b n) s = .next (cooling.endTransaction slot r .timeout))

/-! ### Branch Ports -/

/-- R105 and R107: BRANCH_CONFIG's tests in order, then the five settings replaced and nothing else of the port;
BRANCH_ENABLE makes a DISABLED or FAULTED branch ENABLED with its consecutive count 0; both are BAD_STATE for an ENABLED
or DRAINING branch; another BRANCH_CONFIG length is BAD_REQUEST. -/
def Obligations.BranchConfigAndEnable : Prop :=
  ((∀ (s : State) (branch window cool fault profile severity : Byte),
    s.Executes 0x40 [branch, window, cool, fault, profile, severity] →
    let bad := 3 < branch.toNat ∨ window = 0 ∨ 4 < window.toNat ∨ cool = 0 ∨ fault = 0 ∨ 15 < fault.toNat ∨
      3 < profile.toNat ∨ 7 < severity.toNat
    (bad → exec .branchConfig s = .next (s.answer .badValue [])) ∧
    ∀ (b : Fin 4) (p : Fin 4) (v : Fin 8), ¬bad → branch.toNat = b.val → profile.toNat = p.val →
      severity.toNat = v.val →
      ((s.branch b).state = .enabled ∨ (s.branch b).state.isDraining = true →
        exec .branchConfig s = .next (s.answer .badState [])) ∧
      ((s.branch b).state = .disabled ∨ (s.branch b).state = .faulted →
        exec .branchConfig s = .next
          ((s.setBranch b { s.branch b with
              settings := ⟨window.toNat, cool.toNat, fault.toNat, p, v⟩ }).answer .done []))) ∧
  ∀ (s : State) (branch : Byte), s.Executes 0x41 [branch] →
    (3 < branch.toNat → exec .branchEnable s = .next (s.answer .badValue [])) ∧
    ∀ b : Fin 4, branch.toNat = b.val →
      ((s.branch b).state = .enabled ∨ (s.branch b).state.isDraining = true →
        exec .branchEnable s = .next (s.answer .badState [])) ∧
      ((s.branch b).state = .disabled ∨ (s.branch b).state = .faulted →
        exec .branchEnable s = .next
          ((s.setBranch b { s.branch b with state := .enabled, consecutive := 0 }).answer .done []))) ∧
  ∀ (s : State) (payload : List Byte), s.Executes 0x40 payload → payload.length ≠ 6 →
    exec .branchConfig s = .next (s.answer .badRequest [])

/-- R108 and R109: BRANCH_DISABLE ends the records BRANCH_DOWN, makes the branch DISABLED without a notice and answers
DONE, and changes nothing of a DISABLED or FAULTED branch; BRANCH_DRAIN by the branch's state, a deadline of 0
BAD_VALUE. The deadline is held in the model's units of 100 us, ten to the millisecond. -/
def Obligations.BranchDisableAndDrain : Prop :=
  (∀ (s : State) (branch : Byte), s.Executes 0x43 [branch] →
    (3 < branch.toNat → exec .branchDisable s = .next (s.answer .badValue [])) ∧
    ∀ b : Fin 4, branch.toNat = b.val →
      ((s.branch b).state = .disabled ∨ (s.branch b).state = .faulted →
        exec .branchDisable s = .next (s.answer .done [])) ∧
      ((s.branch b).state = .enabled ∨ (s.branch b).state.isDraining = true →
        let t := s.endBranchRecords b .branchDown
        exec .branchDisable s = .next
          ((t.setBranch b { t.branch b with state := .disabled }).answer .done []))) ∧
  ∀ (s : State) (branch d1 d0 : Byte), s.Executes 0x42 [branch, d1, d0] →
    (3 < branch.toNat ∨ (d1 = 0 ∧ d0 = 0) → exec .branchDrain s = .next (s.answer .badValue [])) ∧
    ∀ b : Fin 4, branch.toNat = b.val → ¬(d1 = 0 ∧ d0 = 0) →
      ((s.branch b).state = .disabled → exec .branchDrain s = .next (s.answer .done [])) ∧
      ((s.branch b).state = .faulted ∨ (s.branch b).state.isDraining = true →
        exec .branchDrain s = .next (s.answer .badState [])) ∧
      ((s.branch b).state = .enabled → (∃ i r, s.record i = some r ∧ r.snapshot.branch = b) →
        exec .branchDrain s = .next
          ((s.setBranch b { s.branch b with
              state := .draining (s.now + (d1.toNat * 256 + d0.toNat) * 10) }).answer .accepted [])) ∧
      ((s.branch b).state = .enabled → (∀ i r, s.record i = some r → r.snapshot.branch ≠ b) →
        exec .branchDrain s = .next
          (((s.setBranch b { s.branch b with state := .disabled }).post
            { source := .branchDrained b, severity := 2, globalAddress := none, repeats := 1, data := []
              forced := false, claim := none, previousId := none }).answer .accepted []))

/-- R90: the end of a spacing queues the record at the tail of its class, at the same step with its attempts. R111: the
drain deadline ends the records ABORTED, makes the branch DISABLED and posts the forced notice of severity 4. The end of a
pause advances the record (section 6.2); a cool deadline frees its tag in every branch state (section 7.5). That the
model's time base moves to the deadline is its own choice (log entry 1). -/
def Obligations.RecordAndBranchDeadlinesExpire : Prop :=
  (∀ (s : State) (slot : Fin 32) (r : Record) (deadline : Time), s.resetLow = false → s.record slot = some r →
    let due : State := { s with now := max s.now deadline }
    let b := r.snapshot.branch
    (r.state = .spacing deadline →
      exec (.spacingExpiry slot) s = .next
        ((due.setRecord slot (some { r with state := .queued })).setBranch b
          (if r.urgent then { s.branch b with urgentQueue := (s.branch b).urgentQueue ++ [slot] }
           else { s.branch b with normalQueue := (s.branch b).normalQueue ++ [slot] }))) ∧
    (r.state = .paused deadline → exec (.pauseExpiry slot) s = .next (due.advance slot r))) ∧
  ∀ (s : State) (b : Fin 4) (deadline : Time), s.resetLow = false →
    let due : State := { s with now := max s.now deadline }
    ((s.branch b).state = .draining deadline →
      let t := due.endBranchRecords b .aborted
      exec (.drainDeadlineExpiry b) s = .next
        ((t.setBranch b { t.branch b with state := .disabled }).post
          { source := .branchDrained b, severity := 4, globalAddress := none, repeats := 1, data := []
            forced := true, claim := none, previousId := none })) ∧
    ∀ n profile localAddress, (s.branch b).tag n = .cooling profile localAddress deadline →
      exec (.coolDeadlineExpiry b n) s = .next (due.setTag b n .free)

/-- R115 and R116: where the five conditions hold the record at the head of URGENT, or of NORMAL where that is empty, is
taken. A payload past 64 bytes at an ISSUE step ends it STEP_OVERSIZE with no tag; otherwise the lowest FREE tag becomes
IN_USE, the record ISSUED, the frame built with the profile's current parameters is handed to the transmitter and the
exchange counted. That SCHEDULER_ISSUE where a condition fails changes nothing is the model's choice (log entry 3). -/
def Obligations.SchedulerIssuesTheHeadRecord : Prop :=
  (∀ (s : State) (b : Fin 4),
    ((s.branch b).state.working = false ∨ (s.branch b).tx ≠ none ∨
      (s.branch b).settings.window ≤ s.issuedOn b ∨ (∀ n, (s.branch b).tag n ≠ .free) ∨
      ((s.branch b).urgentQueue = [] ∧ (s.branch b).normalQueue = [])) →
    exec (.schedulerIssue b) s = .next s) ∧
  ∀ (s : State) (b : Fin 4) (n : Fin 16) (slot : Fin 32) (r : Record) (step : Step) (op : Op)
    (payload : List Byte),
    s.resetLow = false → (s.branch b).state.working = true → (s.branch b).tx = none →
    s.issuedOn b < (s.branch b).settings.window →
    (s.branch b).tag n = .free → (∀ m, m < n → (s.branch b).tag m ≠ .free) →
    ((∃ rest, (s.branch b).urgentQueue = slot :: rest) ∨
      ((s.branch b).urgentQueue = [] ∧ ∃ rest, (s.branch b).normalQueue = slot :: rest)) →
    s.record slot = some r → s.stepOf r = some step →
    (match step with
      | .issue o block offset slice _ => op = o ∧ payload =
          (match block with | some k => s.block k | none => []) ++
            (match slice with
              | .bytes m => (r.payload.drop offset.val).take m.val
              | .all => r.payload.drop offset.val)
      | .await o block _ _ _ _ _ => op = o ∧ payload = (match block with | some k => s.block k | none => [])
      | .pause _ => False) →
    let taken : BranchPort :=
      { s.branch b with
        urgentQueue := (s.branch b).urgentQueue.filter (· != slot)
        normalQueue := (s.branch b).normalQueue.filter (· != slot) }
    ((∃ o block offset slice capture, step = .issue o block offset slice capture) → 64 < payload.length →
      exec (.schedulerIssue b) s = .next ((s.setBranch b taken).endTransaction slot r .stepOversize)) ∧
    ((∃ o block index mask expected limit spacing, step = .await o block index mask expected limit spacing) ∨
      payload.length ≤ 64 →
      exec (.schedulerIssue b) s = .next
        ((s.setRecord slot (some { r with state := .issued n none })).setBranch b
          { (taken.setTag n (.inUse r.snapshot.profile r.snapshot.localAddress)).bump .exchangesIssued with
            tx := some
              { localAddress := r.snapshot.localAddress, tag := n, op, payload
                check := (s.profile r.snapshot.profile).checkBytes
                  ([1, r.snapshot.localAddress, indexByte n, op.code, BitVec.ofNat 8 payload.length]
                    ++ payload) } }))

/-- The end of a branch transmission makes the transmitter idle and, where the frame's tag is still IN_USE for its
record, sets that record's deadline to the snapshot timeout later; where the tag is not, no timer starts (sections 7.4,
7.6). -/
def Obligations.BranchTransmissionEndStartsTheTimer : Prop :=
  ∀ (s : State) (b : Fin 4) (f : BranchRequest), s.resetLow = false → (s.branch b).tx = some f →
    let idle := s.setBranch b { s.branch b with tx := none }
    ((∀ p a, (s.branch b).tag f.tag ≠ .inUse p a) → exec (.branchTransmissionEnd b) s = .next idle) ∧
    ∀ p a slot r d, (s.branch b).tag f.tag = .inUse p a → s.record slot = some r → r.snapshot.branch = b →
      r.state = .issued f.tag d →
      (∀ i q e, s.record i = some q → q.snapshot.branch = b → q.state = .issued f.tag e → i = slot) →
      exec (.branchTransmissionEnd b) s = .next
        (idle.setRecord slot
          (some { r with state := .issued f.tag (some (s.now + r.snapshot.timeout.toNat)) }))

/-- R123: a frame of any kind, good or bad, taken on a DISABLED or FAULTED branch is counted ignored and reaches
nothing. -/
def Obligations.FramesOnAClosedBranchAreIgnored : Prop :=
  ∀ (s : State) (b : Fin 4), s.resetLow = false →
    (s.branch b).state = .disabled ∨ (s.branch b).state = .faulted →
    (∀ content, exec (.branchFrame b content) s = .next (s.bumpBranch b .framesIgnored)) ∧
    (∀ localAddress tag status payload,
      exec (.branchResponse b localAddress tag status payload) s = .next (s.bumpBranch b .framesIgnored)) ∧
    ∀ localAddress payload,
      exec (.alert b localAddress payload) s = .next (s.bumpBranch b .framesIgnored)

/-- On a working branch, content that is no frame of at most 64 payload bytes with the check of the profile its header
chooses raises the check errors and the consecutive count (so does a frame given by fields with a longer payload, log
entry 10); where the count reaches the fault limit the records end BRANCH_FAULT, the branch becomes FAULTED and the notice
of severity 6 is posted. The content of a good frame acts as the command of its fields; an ALERT's tag and op-or-status
bytes are ignored, and a REQUEST or an unknown kind is counted unexpected (sections 1.6, 7.2, 7.7). -/
def Obligations.BranchContentIsBadOrActsAsItsFields : Prop :=
  (∀ (s : State) (b : Fin 4), s.resetLow = false → (s.branch b).state.working = true →
    let counted := s.setBranch b
      { (s.branch b).bump .checkErrors with consecutive := (s.branch b).consecutive + 1 }
    let ended := counted.endBranchRecords b .branchFault
    let after : State :=
      if (s.branch b).consecutive + 1 = (s.branch b).settings.faultLimit then
        (ended.setBranch b { ended.branch b with state := .faulted }).post
          { source := .branchFaulted b, severity := 6, globalAddress := none, repeats := 1, data := []
            forced := false, claim := none, previousId := none }
      else counted
    (∀ content,
      (∀ kind localAddress tag opOrStatus payload p, payload.length ≤ 64 → (s.branch b).ChecksWith kind tag p →
        content ≠ branchBody kind localAddress tag opOrStatus payload ++
          (s.profile p).checkBytes (branchBody kind localAddress tag opOrStatus payload)) →
      exec (.branchFrame b content) s = .next after) ∧
    (∀ localAddress tag status payload, 64 < payload.length →
      exec (.branchResponse b localAddress tag status payload) s = .next after) ∧
    ∀ localAddress payload, 64 < payload.length → exec (.alert b localAddress payload) s = .next after) ∧
  ∀ (s : State) (b : Fin 4) (kind localAddress tag opOrStatus : Byte) (payload : List Byte) (p : Fin 4),
    s.resetLow = false → (s.branch b).state.working = true → payload.length ≤ 64 →
    (s.branch b).ChecksWith kind tag p →
    let body := branchBody kind localAddress tag opOrStatus payload
    let content := body ++ (s.profile p).checkBytes body
    (kind = 2 →
      exec (.branchFrame b content) s = exec (.branchResponse b localAddress tag opOrStatus payload) s) ∧
    (kind = 3 → exec (.branchFrame b content) s = exec (.alert b localAddress payload) s) ∧
    (kind ≠ 2 → kind ≠ 3 → exec (.branchFrame b content) s = .next
      ((s.setBranch b { s.branch b with consecutive := 0 }).bumpBranch b .unexpected))

/-- R126 for a good RESPONSE: unexpected with a bad local address or a tag above 15, late on a FREE or COOLING tag,
mismatched from another local address than the IN_USE tag's, and otherwise matched: the tag FREE and the answer given to
the record that holds it. Each sets the consecutive count to 0. -/
def Obligations.ResponsesAreMatchedToTheirTags : Prop :=
  ∀ (s : State) (b : Fin 4) (localAddress tag status : Byte) (payload : List Byte),
    s.resetLow = false → (s.branch b).state.working = true → payload.length ≤ 64 →
    let good := s.setBranch b { s.branch b with consecutive := 0 }
    let answers (t : State) : Prop := exec (.branchResponse b localAddress tag status payload) s = .next t
    (localAddress = 0 ∨ 126 < localAddress.toNat ∨ 15 < tag.toNat → answers (good.bumpBranch b .unexpected)) ∧
    ∀ n : Fin 16, localAddress ≠ 0 → localAddress.toNat ≤ 126 → tag.toNat = n.val →
      ((∀ p a, (s.branch b).tag n ≠ .inUse p a) → answers (good.bumpBranch b .late)) ∧
      ∀ p a, (s.branch b).tag n = .inUse p a →
        (localAddress ≠ a → answers (good.bumpBranch b .mismatched)) ∧
        ∀ slot r d, localAddress = a → s.record slot = some r → r.snapshot.branch = b → r.state = .issued n d →
          (∀ i q e, s.record i = some q → q.snapshot.branch = b → q.state = .issued n e → i = slot) →
          answers (((good.bumpBranch b .matchedResponses).setTag b n .free).takeAnswer slot r status payload)

/-- R127 and R131: a good ALERT from a legal local address is counted and judged by the reverse lookup: severity 0
suppresses and counts it, another offers a NODE_ALERT notice with the first eight payload bytes. -/
def Obligations.AlertsAreSuppressedOrOffered : Prop :=
  ∀ (s : State) (b : Fin 4) (localAddress : Byte) (payload : List Byte),
    s.resetLow = false → (s.branch b).state.working = true → payload.length ≤ 64 →
    let good := s.setBranch b { s.branch b with consecutive := 0 }
    let handed := good.bumpBranch b .alertsReceived
    let answers (t : State) : Prop := exec (.alert b localAddress payload) s = .next t
    let judged (severity : Fin 8) (address : Option Address) : Prop :=
      (severity = 0 → answers (handed.bumpBranch b .alertsSuppressed)) ∧
      (severity ≠ 0 → answers (handed.post
        { source := .nodeAlert b localAddress, severity, globalAddress := address, repeats := 1
          data := payload.take 8, forced := false, claim := none, previousId := none }))
    (localAddress = 0 ∨ 126 < localAddress.toNat → answers (good.bumpBranch b .unexpected)) ∧
    (localAddress ≠ 0 → localAddress.toNat ≤ 126 →
      (∀ i r, s.reverseLookup b localAddress = some (i, r) →
        judged r.config.alertSeverity (some r.config.globalAddress)) ∧
      (s.reverseLookup b localAddress = none → judged (s.branch b).settings.unmappedSeverity none))

/-! ### The Notice Queue -/

/-- R133 and R134, with the judging of attention after each (R141, R142): an arrival is coalesced into the UNCLAIMED
notice of its kind and source, or added at the tail below 16, or replaces the oldest UNCLAIMED notice of the lowest
severity where that is below its own, or is dropped; the last two raise the lost count, held at 65535. -/
def Obligations.ArrivalsCoalesceJoinReplaceOrDrop : Prop :=
  ∀ (s : State) (n : Notice),
    let offered (t : State) : Prop := s.post n = t.judgeAttention
    (∀ i m, s.notices[i]? = some m → m.claim = none → m.source = n.source →
      (∀ (j : Nat) (k : Notice), s.notices[j]? = some k → k.claim = none → k.source = n.source → i ≤ j) →
      let held : Notice :=
        { m with
          repeats := if m.repeats = 255 then 255 else m.repeats + 1
          data := n.data, globalAddress := n.globalAddress
          severity := if m.severity < n.severity then n.severity else m.severity
          forced := m.forced || n.forced }
      offered { s with notices := s.notices.set i held }) ∧
    ((∀ m ∈ s.notices, m.claim = none → m.source ≠ n.source) →
      (s.notices.length < 16 → offered { s with notices := s.notices ++ [n] }) ∧
      (16 ≤ s.notices.length →
        let lost : BitVec 16 := if s.lost = 0xFFFF then 0xFFFF else s.lost + 1
        (∀ i m, s.notices[i]? = some m → m.claim = none → m.severity < n.severity →
          (∀ (j : Nat) (k : Notice), s.notices[j]? = some k → k.claim = none →
            m.severity ≤ k.severity ∧ (k.severity = m.severity → i ≤ j)) →
          offered { s with notices := s.notices.eraseIdx i ++ [n], lost := lost }) ∧
        ((∀ m ∈ s.notices, m.claim = none → n.severity ≤ m.severity) → offered { s with lost := lost })))

/-- R141 and R142 in the event that judges the condition: where it has become true ATTN# is driven and one request is
made, which places an ATTENTION frame with the values of this moment, becomes pending without a free place, or is the one
already pending; where it is false ATTN# is released; where it stays true nothing happens. PENDING_REQUEST_RESOLVED
(R143) gives a free place to a pending request or drops it where the condition is false; that it changes nothing with no
request pending or no free place is the model's choice (log entry 3). -/
def Obligations.AttentionIsRequestedOnceARise : Prop :=
  ∀ (s : State),
    let holds := ∃ n ∈ s.notices, n.claim = none ∧ s.threshold < n.severity
    let calling := s.notices.filter fun n => n.claim.isNone && s.threshold < n.severity
    let frame := buildTrunk kindAttention s.ownAddress 0 0
      [BitVec.ofNat 8 calling.length, BitVec.ofNat 8 ((calling.map fun n => n.severity.val).foldl max 0)]
    (¬holds → s.judgeAttention = { s with attn := false }) ∧
    (holds → s.attn = true → s.judgeAttention = s) ∧
    (holds → s.attn = false →
      (s.attentionPending = true → s.judgeAttention = { s with attn := true }) ∧
      (s.attentionPending = false → s.poolTaken < 8 →
        s.judgeAttention = { s with attn := true }.join .pool frame) ∧
      (s.attentionPending = false → 8 ≤ s.poolTaken →
        s.judgeAttention = { s with attn := true, attentionPending := true })) ∧
    (s.resetLow = false →
      (s.attentionPending = false ∨ 8 ≤ s.poolTaken → exec .pendingRequestResolved s = .next s) ∧
      (s.attentionPending = true → s.poolTaken < 8 →
        (holds → exec .pendingRequestResolved s = .next ({ s with attentionPending := false }.join .pool frame)) ∧
        (¬holds → exec .pendingRequestResolved s = .next { s with attentionPending := false })))

/-- A claim chooses, among the UNCLAIMED notices at or above the minimum, the oldest of the highest severity, gives it
the counter's id and the lease, answers its record with the lost count, and sets that to 0; without one EMPTY; a minimum
of 0 or above 7 BAD_VALUE. The record is the 19 bytes of section 1.7.3 (sections 1.7.3, 8.4). The lease is held in the
model's units of 100 us, 10000 to the second. -/
def Obligations.ClaimTakesTheHighestThenOldest : Prop :=
  (∀ (n : Notice), n.data.length ≤ 8 →
    let rest : List Byte :=
      [((n.globalAddress.getD 0).extractLsb' 8 8), ((n.globalAddress.getD 0).extractLsb' 0 8), n.repeats,
        (match n.claim with | some c => c.id | none => 0), n.previousId.getD 0, BitVec.ofNat 8 n.data.length]
        ++ n.data ++ List.replicate (8 - n.data.length) 0
    let flags : Byte :=
      (if n.globalAddress = none then 0 else 1) ||| (if n.forced then 2 else 0) |||
        (if n.previousId = none then 0 else 4)
    n.bytes.length = 19 ∧
    (∀ b a, n.source = .nodeAlert b a → n.bytes = [1, indexByte n.severity, flags, indexByte b, a] ++ rest) ∧
    (∀ i, n.source = .routeQuarantined i →
      n.bytes = [2, indexByte n.severity, flags, 0, indexByte i] ++ rest) ∧
    (∀ b, n.source = .branchFaulted b →
      n.bytes = [3, indexByte n.severity, flags, indexByte b, 0] ++ rest) ∧
    (∀ b, n.source = .branchDrained b →
      n.bytes = [4, indexByte n.severity, flags, indexByte b, 0] ++ rest)) ∧
  ∀ (s : State) (minimum : Byte), s.Executes 0x60 [minimum] →
    (minimum = 0 ∨ 7 < minimum.toNat → exec .noticeClaim s = .next (s.answer .badValue [])) ∧
    (minimum ≠ 0 → minimum.toNat ≤ 7 →
      ((∀ n ∈ s.notices, n.claim = none → n.severity.val < minimum.toNat) →
        exec .noticeClaim s = .next (s.answer .empty [])) ∧
      ∀ i n, s.notices[i]? = some n → n.claim = none → minimum.toNat ≤ n.severity.val →
        (∀ (j : Nat) (m : Notice), s.notices[j]? = some m → m.claim = none →
          m.severity ≤ n.severity ∧ (m.severity = n.severity → i ≤ j)) →
        let claimed : Notice := { n with claim := some ⟨s.nextClaim, s.now + s.lease * 10000⟩ }
        exec .noticeClaim s = .next
          (State.answer
            ({ s with notices := s.notices.set i claimed, nextClaim := s.nextClaim + 1, lost := 0 }
              : State).judgeAttention
            .done (claimed.bytes ++ [s.lost.extractLsb' 8 8, s.lost.extractLsb' 0 8])))

/-- R137 in full, and that a retire leaves the attention condition as it was. -/
def Obligations.RetireRemovesTheOldestClaimOfTheId : Prop :=
  ∀ (s : State) (id : Byte), s.Executes 0x61 [id] →
    (∀ i n c, s.notices[i]? = some n → n.claim = some c → c.id = id →
      (∀ (j : Nat) (m : Notice) (d : Claim), s.notices[j]? = some m → m.claim = some d → d.id = id → i ≤ j) →
      ∃ t, exec .noticeRetire s = .next t ∧
        t = State.answer { s with notices := s.notices.eraseIdx i } .done [] ∧
        t.attentionCondition = s.attentionCondition) ∧
    ((∀ n ∈ s.notices, ∀ c, n.claim = some c → c.id ≠ id) →
      ((∃ n ∈ s.notices, n.previousId = some id) → exec .noticeRetire s = .next (s.answer .staleClaim [])) ∧
      ((∀ n ∈ s.notices, n.previousId ≠ some id) → exec .noticeRetire s = .next (s.answer .notFound [])))

/-- R138: the notice returns to UNCLAIMED in its place with the lapsed id as its previous id, or is merged with the other
UNCLAIMED notice of its kind and source into the earlier of the two; attention is judged after it. That the model's time
base moves to the deadline is its own choice (log entry 1). -/
def Obligations.LapsedLeaseReturnsOrMerges : Prop :=
  ∀ (s : State) (place : Fin 16) (n : Notice) (c : Claim),
    s.resetLow = false → s.notices[place.val]? = some n → n.claim = some c →
    let lapses (notices : List Notice) : Prop :=
      exec (.leaseExpiry place) s = .next
        ({ s with now := max s.now c.deadline, notices := notices } : State).judgeAttention
    let merged (earlier later : Notice) : Notice :=
      { earlier with
        severity := if earlier.severity < later.severity then later.severity else earlier.severity
        globalAddress := later.globalAddress
        repeats := if 255 ≤ earlier.repeats.toNat + later.repeats.toNat then 255
          else earlier.repeats + later.repeats
        data := later.data, forced := earlier.forced || later.forced, claim := none, previousId := some c.id }
    ((∀ m ∈ s.notices, m.claim = none → m.source ≠ n.source) →
      lapses (s.notices.set place.val { n with claim := none, previousId := some c.id })) ∧
    ∀ j m, s.notices[j]? = some m → m.claim = none → m.source = n.source →
      (∀ (k : Nat) (l : Notice), s.notices[k]? = some l → l.claim = none → l.source = n.source → j ≤ k) →
      (place.val < j → lapses ((s.notices.set place.val (merged n m)).eraseIdx j)) ∧
      (j < place.val → lapses ((s.notices.set j (merged m n)).eraseIdx place.val))

/-- R140: both settings replaced and the condition judged afresh; a threshold above 7, a lease of 0 or above 60
BAD_VALUE. Leases already running keep their deadlines, and at threshold 7 the condition is false. -/
def Obligations.NoticeSettingsAreReplaced : Prop :=
  (∀ (s : State) (threshold lease : Byte), s.Executes 0x62 [threshold, lease] →
    (7 < threshold.toNat ∨ lease = 0 ∨ 60 < lease.toNat →
      exec .noticeSettings s = .next (s.answer .badValue [])) ∧
    ∀ v : Fin 8, threshold.toNat = v.val → lease ≠ 0 → lease.toNat ≤ 60 →
      exec .noticeSettings s = .next
        (State.answer ({ s with threshold := v, lease := lease.toNat } : State).judgeAttention .done [])) ∧
  ∀ (s : State), s.threshold = 7 → s.attentionCondition = false

/-! ### Invariants: every step keeps them, from every state that meets them -/

/-- State.reset meets every invariant below. -/
def Obligations.ResetMeetsEveryInvariant : Prop := State.reset.Sound

/-- R28: among the non-EMPTY entries no two share a global address, no two share the branch and local address, none holds
the own address; every entry is in range and, while VALID, below its quarantine limit. -/
def Obligations.StepKeepsTheRoutesSound : Prop :=
  ∀ (s t : State), s.RoutesSound → step s = .next t → t.RoutesSound

/-- The Trunk Output Queue, the input queue, the transmitter and the Agent stay consistent: at most 8 pool places taken,
at most 4 frames waiting (sections 9.2, 9.3, 10.1, 10.2); every queued frame is of a kind the part sends, with its low
bits 0 and its check right (sections 1.2, 9.2). -/
def Obligations.StepKeepsTheTrunkSound : Prop :=
  ∀ (s t : State), s.TrunkSound → s.FramesBuilt → step s = .next t → t.TrunkSound ∧ t.FramesBuilt

/-- The budget in use never passes 32 and no two live records hold one trunk tag (sections 6.1, 6.3). -/
def Obligations.StepKeepsTheBudget : Prop :=
  ∀ (s t : State), s.BudgetSound → step s = .next t → t.BudgetSound

/-- Every LOADED recipe is sound, and every live record stands at a step of its recipe that its state fits, within its
bounds: accumulator at most 64 bytes, retries within the limit, attempts below the step's limit (sections 4.1, 6.1). -/
def Obligations.StepKeepsTheRecordsSound : Prop :=
  ∀ (s t : State), s.RecordsSound → step s = .next t → t.RecordsSound

/-- A DISABLED or FAULTED branch has no live record, a DRAINING one at least one; the Issue Queues hold exactly the QUEUED
records; the ISSUED records hold the IN_USE tags one to one, within the window (sections 6.1, 7.2, 7.3, 7.5). -/
def Obligations.StepKeepsTheBranchPortsSound : Prop :=
  ∀ (s t : State), s.BranchStatesSound → s.IssueQueuesSound → s.TagsSound → s.RecordsSound →
    step s = .next t → t.BranchStatesSound ∧ t.IssueQueuesSound ∧ t.TagsSound

/-- Settings and profiles stay in their ranges, and a working branch's consecutive count below its fault limit (sections
2.2, 7.1, 7.7, 8.5). -/
def Obligations.StepKeepsTheSettingsInRange : Prop :=
  ∀ (s t : State), s.SettingsSound → step s = .next t → t.SettingsSound

/-- The Notice Queue holds at most 16 notices, at most one UNCLAIMED of any kind and source, each in range; ATTN# is
asserted exactly while the attention condition holds (sections 8.1, 8.6). -/
def Obligations.StepKeepsTheNoticesSound : Prop :=
  ∀ (s t : State), s.NoticesSound → s.AttnSound → step s = .next t → t.NoticesSound ∧ t.AttnSound

/-! ### Rules of the whole machine -/

/-- A live record's trunk tag, global address, urgency, op, snapshot and payload do not change while it lives, whatever
command is taken (section 6.1). -/
def Obligations.ALiveRecordKeepsItsRequest : Prop :=
  ∀ (c : Instr) (s t : State) (i : Fin 32) (r q : Record),
    exec c s = .next t → s.record i = some r → t.record i = some q →
    q.trunkTag = r.trunkTag ∧ q.globalAddress = r.globalAddress ∧ q.urgent = r.urgent ∧ q.op = r.op ∧
    q.snapshot = r.snapshot ∧ q.payload = r.payload

/-- What live work uses does not change under it: a profile that a live record names or a COOLING tag holds, and a recipe
that a live record executes, are as before after every command but a hard reset or a FULL soft reset, which leave no live
record and no COOLING tag (sections 2.5, 2.6, 4.6). -/
def Obligations.WhatIsInUseDoesNotChange : Prop :=
  ∀ (c : Instr) (s t : State), exec c s = .next t → c ≠ .hardReset → c ≠ .softResetFull →
    (∀ p, s.profileInUse p = true → t.profile p = s.profile p) ∧
    ∀ k, s.recipeInUse k = true → t.recipe k = s.recipe k

/-- R37: a generation moves by one, from 255 to 0, at a successful ROUTE_WRITE or ROUTE_DELETE at its index, one that
answers DONE with the new generation, and at no other command but the two resets that set it to 0 (section 3.9). Every
ROUTE_WRITE and ROUTE_DELETE of an index in range either succeeds, and moves it, or is refused and changes nothing but for
the reply. -/
def Obligations.GenerationsCountWritesAndDeletes : Prop :=
  (∀ (c : Instr) (s t : State) (i : Fin 128), exec c s = .next t →
    let moved := (s.route i).generation + 1
    (t.route i).generation = (s.route i).generation ∨
    (((c = .routeWrite ∧ ∃ record, s.Executes 0x10 (indexByte i :: record)) ∨
        (c = .routeDelete ∧ s.Executes 0x12 [indexByte i])) ∧
      ∃ live, t = (s.setRoute i { generation := moved, live }).answer .done [moved]) ∨
    ((c = .hardReset ∨ c = .softResetFull) ∧ (t.route i).generation = 0)) ∧
  ∀ (s : State) (i : Fin 128),
    let moved := (s.route i).generation + 1
    (∀ record, s.Executes 0x10 (indexByte i :: record) →
      (∃ result ∈ ([.badRequest, .badValue, .conflict] : List Result),
        exec .routeWrite s = .next (s.answer result [])) ∨
      ∃ config, exec .routeWrite s = .next
        ((s.setRoute i
          { generation := moved, live := some { config, quarantined := false, failures := 0 } }).answer .done
          [moved])) ∧
    (s.Executes 0x12 [indexByte i] →
      exec .routeDelete s = .next (s.answer .notFound []) ∨
      exec .routeDelete s = .next ((s.setRoute i { generation := moved, live := none }).answer .done [moved]))

/-- A counter raised by one stops at 0xFFFFFFFF, and no other counter and nothing else moves. A frame taken by the trunk
receiver raises exactly one of good frames and check errors; a frame taken by a branch receiver raises exactly one of that
branch's seven receive counters (sections 7.8, 9.5). -/
def Obligations.EachFrameRaisesOneReceiveCounter : Prop :=
  ((∀ (s : State) (c : TrunkCounter),
    s.bumpTrunk c = { s with trunkCounters := (s.bumpTrunk c).trunkCounters } ∧
    ∀ n, look (s.bumpTrunk c).trunkCounters n =
      if n ≠ c.index then look s.trunkCounters n
      else if look s.trunkCounters n = 0xFFFFFFFF then 0xFFFFFFFF else look s.trunkCounters n + 1) ∧
  ∀ (s : State) (b : Fin 4) (c : BranchCounter),
    let t := s.bumpBranch b c
    t = { s with branches := t.branches } ∧ (∀ d, d ≠ b → t.branch d = s.branch d) ∧
    t.branch b = { s.branch b with counters := (t.branch b).counters } ∧
    ∀ n, look (t.branch b).counters n =
      if n ≠ c.index then look (s.branch b).counters n
      else if look (s.branch b).counters n = 0xFFFFFFFF then 0xFFFFFFFF
      else look (s.branch b).counters n + 1) ∧
  (∀ (c : Instr) (s t : State), s.resetLow = false → exec c s = .next t →
    (∃ content, c = .trunkFrame content) ∨ (∃ flags address tag op payload, c = .request flags address tag op payload) ∨
      (∃ address tag code payload, c = .manage address tag code payload) ∨ (∃ address, c = .hold address) ∨
      (∃ address, c = .release address) →
    ∃ n ∈ ([0, 1] : List (Fin 16)), look t.trunkCounters n = satInc (look s.trunkCounters n) ∧
      ∀ m ∈ ([0, 1] : List (Fin 16)), m ≠ n → look t.trunkCounters m = look s.trunkCounters m) ∧
  ∀ (c : Instr) (s t : State) (b : Fin 4), s.resetLow = false → exec c s = .next t →
    (∃ content, c = .branchFrame b content) ∨
      (∃ localAddress tag status payload, c = .branchResponse b localAddress tag status payload) ∨
      (∃ localAddress payload, c = .alert b localAddress payload) →
    ∃ n ∈ ([1, 2, 3, 4, 6, 8, 9] : List (Fin 10)),
      look (t.branch b).counters n = satInc (look (s.branch b).counters n) ∧
      ∀ m ∈ ([1, 2, 3, 4, 6, 8, 9] : List (Fin 10)), m ≠ n →
        look (t.branch b).counters m = look (s.branch b).counters m

/-- The commands of one branch leave the other branches and their records as they were: no frame, issue, transmission end,
exchange timer, cool deadline or drain deadline of a branch reaches another (sections 6.4, 7.4, 7.7). The Issue Queues and tags are as section 7 says. -/
def Obligations.BranchesAreIndependent : Prop :=
  ∀ (c : Instr) (s t : State) (b d : Fin 4), exec c s = .next t → d ≠ b →
    (∃ content, c = .branchFrame b content) ∨
      (∃ localAddress tag status payload, c = .branchResponse b localAddress tag status payload) ∨
      (∃ localAddress payload, c = .alert b localAddress payload) ∨
      c = .branchTransmissionEnd b ∨ (∃ n, c = .exchangeTimerExpiry b n) ∨
      (∃ n, c = .coolDeadlineExpiry b n) ∨ c = .drainDeadlineExpiry b ∨
      (c = .schedulerIssue b ∧ s.IssueQueuesSound) →
    t.branch d = s.branch d ∧
    ∀ i r, s.record i = some r → r.snapshot.branch = d → t.record i = some r

/-! ### The check computation -/

/-- R18: reflecting exchanges bit `i` with bit width less one less `i`; input reflection acts on each byte before it
enters, output reflection once on the whole remainder, neither on the initial value, the polynomial or the final XOR. And
as each bit only shifts the register and XORs the polynomial in where it differs from the top bit (section 2.3), the
remainder is linear: over two sequences of one length, from two initial values, the remainders XOR to the remainder of
the XOR. -/
def Obligations.ReflectionAndLinearityOfTheCheck : Prop :=
  ((∀ (w : Nat) (x : BitVec w) (i : Nat), i < w → (reflect x).getLsbD i = x.getLsbD (w - 1 - i)) ∧
  ∀ (w : Nat) (polynomial initial finalXor : BitVec w) (reflectOut : Bool) (bytes : List Byte),
    let plain : CheckParams w := ⟨polynomial, initial, false, false, 0⟩
    checkValue ⟨polynomial, initial, true, reflectOut, finalXor⟩ bytes =
      checkValue ⟨polynomial, initial, false, reflectOut, finalXor⟩ (bytes.map reflect) ∧
    checkValue ⟨polynomial, initial, false, false, finalXor⟩ bytes = checkValue plain bytes ^^^ finalXor ∧
    checkValue ⟨polynomial, initial, false, true, finalXor⟩ bytes = reflect (checkValue plain bytes) ^^^ finalXor) ∧
  ∀ (w : Nat) (polynomial i j : BitVec w) (xs ys : List Byte), xs.length = ys.length →
    remainder ⟨polynomial, i, false, false, 0⟩ xs ^^^ remainder ⟨polynomial, j, false, false, 0⟩ ys =
      remainder ⟨polynomial, i ^^^ j, false, false, 0⟩ (List.zipWith (· ^^^ ·) xs ys)

end
end

