-- ==== Sys2Proof/Laws/State.lean ====
section
/-! SUPPORT. What each update of State leaves in each field, and the table laws: the entry written is read back and
the others are as they were. One lemma per field per update, true by rfl. -/

namespace Sys2Proof

@[simp] theorem look_put_self {α : Type} {n : Nat} (t : Table α n) (i : Fin n) (a : α) :
    look (put t i a) i = a := by
  simp [look, put]

theorem look_put {α : Type} {n : Nat} (t : Table α n) (i j : Fin n) (a : α) :
    look (put t i a) j = if i = j then a else look t j := by
  simp only [look, put, Vector.getElem_set, Fin.ext_iff]

theorem look_put_ne {α : Type} {n : Nat} {t : Table α n} {i j : Fin n} {a : α} (h : i ≠ j) :
    look (put t i a) j = look t j := by
  simp [look_put, h]

@[simp] theorem look_replicate {α : Type} {n : Nat} (a : α) (i : Fin n) :
    look (Vector.replicate n a) i = a := by
  simp [look]

@[simp] theorem look_map {α β : Type} {n : Nat} (f : α → β) (t : Table α n) (i : Fin n) :
    look (t.map f) i = f (look t i) := by
  simp [look]

theorem table_ext {α : Type} {n : Nat} {t u : Table α n} (h : ∀ i, look t i = look u i) : t = u := by
  apply Vector.ext
  intro i hi
  exact h ⟨i, hi⟩

@[simp] theorem put_look {α : Type} {n : Nat} (t : Table α n) (i : Fin n) : put t i (look t i) = t := by
  apply table_ext
  intro j
  by_cases h : i = j
  · subst h; simp
  · simp [look_put_ne h]

@[simp] theorem put_put {α : Type} {n : Nat} (t : Table α n) (i : Fin n) (a b : α) :
    put (put t i a) i b = put t i b := by
  apply table_ext
  intro j
  simp only [look_put]
  split <;> rfl

end Sys2Proof

namespace Sys2Proof.Machine

variable (s : State)

/-! ### State.setRoute -/

@[simp] theorem State.setRoute_resetLow (i : Fin 128) (e : RouteEntry) : (s.setRoute i e).resetLow = s.resetLow := rfl
@[simp] theorem State.setRoute_now (i : Fin 128) (e : RouteEntry) : (s.setRoute i e).now = s.now := rfl
@[simp] theorem State.setRoute_ownAddress (i : Fin 128) (e : RouteEntry) : (s.setRoute i e).ownAddress = s.ownAddress := rfl
@[simp] theorem State.setRoute_tx (i : Fin 128) (e : RouteEntry) : (s.setRoute i e).tx = s.tx := rfl
@[simp] theorem State.setRoute_toq (i : Fin 128) (e : RouteEntry) : (s.setRoute i e).toq = s.toq := rfl
@[simp] theorem State.setRoute_trunkCounters (i : Fin 128) (e : RouteEntry) : (s.setRoute i e).trunkCounters = s.trunkCounters := rfl
@[simp] theorem State.setRoute_inq (i : Fin 128) (e : RouteEntry) : (s.setRoute i e).inq = s.inq := rfl
@[simp] theorem State.setRoute_agent (i : Fin 128) (e : RouteEntry) : (s.setRoute i e).agent = s.agent := rfl
@[simp] theorem State.setRoute_profiles (i : Fin 128) (e : RouteEntry) : (s.setRoute i e).profiles = s.profiles := rfl
@[simp] theorem State.setRoute_routes (i : Fin 128) (e : RouteEntry) : (s.setRoute i e).routes = put s.routes i e := rfl
@[simp] theorem State.setRoute_recipes (i : Fin 128) (e : RouteEntry) : (s.setRoute i e).recipes = s.recipes := rfl
@[simp] theorem State.setRoute_blocks (i : Fin 128) (e : RouteEntry) : (s.setRoute i e).blocks = s.blocks := rfl
@[simp] theorem State.setRoute_records (i : Fin 128) (e : RouteEntry) : (s.setRoute i e).records = s.records := rfl
@[simp] theorem State.setRoute_branches (i : Fin 128) (e : RouteEntry) : (s.setRoute i e).branches = s.branches := rfl
@[simp] theorem State.setRoute_notices (i : Fin 128) (e : RouteEntry) : (s.setRoute i e).notices = s.notices := rfl
@[simp] theorem State.setRoute_threshold (i : Fin 128) (e : RouteEntry) : (s.setRoute i e).threshold = s.threshold := rfl
@[simp] theorem State.setRoute_lease (i : Fin 128) (e : RouteEntry) : (s.setRoute i e).lease = s.lease := rfl
@[simp] theorem State.setRoute_nextClaim (i : Fin 128) (e : RouteEntry) : (s.setRoute i e).nextClaim = s.nextClaim := rfl
@[simp] theorem State.setRoute_lost (i : Fin 128) (e : RouteEntry) : (s.setRoute i e).lost = s.lost := rfl
@[simp] theorem State.setRoute_attentionPending (i : Fin 128) (e : RouteEntry) : (s.setRoute i e).attentionPending = s.attentionPending := rfl
@[simp] theorem State.setRoute_attn (i : Fin 128) (e : RouteEntry) : (s.setRoute i e).attn = s.attn := rfl
@[simp] theorem State.setRoute_pending (i : Fin 128) (e : RouteEntry) : (s.setRoute i e).pending = s.pending := rfl

/-! ### State.setBranch -/

@[simp] theorem State.setBranch_resetLow (b : Fin 4) (p : BranchPort) : (s.setBranch b p).resetLow = s.resetLow := rfl
@[simp] theorem State.setBranch_now (b : Fin 4) (p : BranchPort) : (s.setBranch b p).now = s.now := rfl
@[simp] theorem State.setBranch_ownAddress (b : Fin 4) (p : BranchPort) : (s.setBranch b p).ownAddress = s.ownAddress := rfl
@[simp] theorem State.setBranch_tx (b : Fin 4) (p : BranchPort) : (s.setBranch b p).tx = s.tx := rfl
@[simp] theorem State.setBranch_toq (b : Fin 4) (p : BranchPort) : (s.setBranch b p).toq = s.toq := rfl
@[simp] theorem State.setBranch_trunkCounters (b : Fin 4) (p : BranchPort) : (s.setBranch b p).trunkCounters = s.trunkCounters := rfl
@[simp] theorem State.setBranch_inq (b : Fin 4) (p : BranchPort) : (s.setBranch b p).inq = s.inq := rfl
@[simp] theorem State.setBranch_agent (b : Fin 4) (p : BranchPort) : (s.setBranch b p).agent = s.agent := rfl
@[simp] theorem State.setBranch_profiles (b : Fin 4) (p : BranchPort) : (s.setBranch b p).profiles = s.profiles := rfl
@[simp] theorem State.setBranch_routes (b : Fin 4) (p : BranchPort) : (s.setBranch b p).routes = s.routes := rfl
@[simp] theorem State.setBranch_recipes (b : Fin 4) (p : BranchPort) : (s.setBranch b p).recipes = s.recipes := rfl
@[simp] theorem State.setBranch_blocks (b : Fin 4) (p : BranchPort) : (s.setBranch b p).blocks = s.blocks := rfl
@[simp] theorem State.setBranch_records (b : Fin 4) (p : BranchPort) : (s.setBranch b p).records = s.records := rfl
@[simp] theorem State.setBranch_branches (b : Fin 4) (p : BranchPort) : (s.setBranch b p).branches = put s.branches b p := rfl
@[simp] theorem State.setBranch_notices (b : Fin 4) (p : BranchPort) : (s.setBranch b p).notices = s.notices := rfl
@[simp] theorem State.setBranch_threshold (b : Fin 4) (p : BranchPort) : (s.setBranch b p).threshold = s.threshold := rfl
@[simp] theorem State.setBranch_lease (b : Fin 4) (p : BranchPort) : (s.setBranch b p).lease = s.lease := rfl
@[simp] theorem State.setBranch_nextClaim (b : Fin 4) (p : BranchPort) : (s.setBranch b p).nextClaim = s.nextClaim := rfl
@[simp] theorem State.setBranch_lost (b : Fin 4) (p : BranchPort) : (s.setBranch b p).lost = s.lost := rfl
@[simp] theorem State.setBranch_attentionPending (b : Fin 4) (p : BranchPort) : (s.setBranch b p).attentionPending = s.attentionPending := rfl
@[simp] theorem State.setBranch_attn (b : Fin 4) (p : BranchPort) : (s.setBranch b p).attn = s.attn := rfl
@[simp] theorem State.setBranch_pending (b : Fin 4) (p : BranchPort) : (s.setBranch b p).pending = s.pending := rfl

/-! ### State.setRecord -/

@[simp] theorem State.setRecord_resetLow (i : Fin 32) (r : Option Record) : (s.setRecord i r).resetLow = s.resetLow := rfl
@[simp] theorem State.setRecord_now (i : Fin 32) (r : Option Record) : (s.setRecord i r).now = s.now := rfl
@[simp] theorem State.setRecord_ownAddress (i : Fin 32) (r : Option Record) : (s.setRecord i r).ownAddress = s.ownAddress := rfl
@[simp] theorem State.setRecord_tx (i : Fin 32) (r : Option Record) : (s.setRecord i r).tx = s.tx := rfl
@[simp] theorem State.setRecord_toq (i : Fin 32) (r : Option Record) : (s.setRecord i r).toq = s.toq := rfl
@[simp] theorem State.setRecord_trunkCounters (i : Fin 32) (r : Option Record) : (s.setRecord i r).trunkCounters = s.trunkCounters := rfl
@[simp] theorem State.setRecord_inq (i : Fin 32) (r : Option Record) : (s.setRecord i r).inq = s.inq := rfl
@[simp] theorem State.setRecord_agent (i : Fin 32) (r : Option Record) : (s.setRecord i r).agent = s.agent := rfl
@[simp] theorem State.setRecord_profiles (i : Fin 32) (r : Option Record) : (s.setRecord i r).profiles = s.profiles := rfl
@[simp] theorem State.setRecord_routes (i : Fin 32) (r : Option Record) : (s.setRecord i r).routes = s.routes := rfl
@[simp] theorem State.setRecord_recipes (i : Fin 32) (r : Option Record) : (s.setRecord i r).recipes = s.recipes := rfl
@[simp] theorem State.setRecord_blocks (i : Fin 32) (r : Option Record) : (s.setRecord i r).blocks = s.blocks := rfl
@[simp] theorem State.setRecord_records (i : Fin 32) (r : Option Record) : (s.setRecord i r).records = put s.records i r := rfl
@[simp] theorem State.setRecord_branches (i : Fin 32) (r : Option Record) : (s.setRecord i r).branches = s.branches := rfl
@[simp] theorem State.setRecord_notices (i : Fin 32) (r : Option Record) : (s.setRecord i r).notices = s.notices := rfl
@[simp] theorem State.setRecord_threshold (i : Fin 32) (r : Option Record) : (s.setRecord i r).threshold = s.threshold := rfl
@[simp] theorem State.setRecord_lease (i : Fin 32) (r : Option Record) : (s.setRecord i r).lease = s.lease := rfl
@[simp] theorem State.setRecord_nextClaim (i : Fin 32) (r : Option Record) : (s.setRecord i r).nextClaim = s.nextClaim := rfl
@[simp] theorem State.setRecord_lost (i : Fin 32) (r : Option Record) : (s.setRecord i r).lost = s.lost := rfl
@[simp] theorem State.setRecord_attentionPending (i : Fin 32) (r : Option Record) : (s.setRecord i r).attentionPending = s.attentionPending := rfl
@[simp] theorem State.setRecord_attn (i : Fin 32) (r : Option Record) : (s.setRecord i r).attn = s.attn := rfl
@[simp] theorem State.setRecord_pending (i : Fin 32) (r : Option Record) : (s.setRecord i r).pending = s.pending := rfl

/-! ### State.setRecipe -/

@[simp] theorem State.setRecipe_resetLow (k : Fin 32) (r : Option Recipe) : (s.setRecipe k r).resetLow = s.resetLow := rfl
@[simp] theorem State.setRecipe_now (k : Fin 32) (r : Option Recipe) : (s.setRecipe k r).now = s.now := rfl
@[simp] theorem State.setRecipe_ownAddress (k : Fin 32) (r : Option Recipe) : (s.setRecipe k r).ownAddress = s.ownAddress := rfl
@[simp] theorem State.setRecipe_tx (k : Fin 32) (r : Option Recipe) : (s.setRecipe k r).tx = s.tx := rfl
@[simp] theorem State.setRecipe_toq (k : Fin 32) (r : Option Recipe) : (s.setRecipe k r).toq = s.toq := rfl
@[simp] theorem State.setRecipe_trunkCounters (k : Fin 32) (r : Option Recipe) : (s.setRecipe k r).trunkCounters = s.trunkCounters := rfl
@[simp] theorem State.setRecipe_inq (k : Fin 32) (r : Option Recipe) : (s.setRecipe k r).inq = s.inq := rfl
@[simp] theorem State.setRecipe_agent (k : Fin 32) (r : Option Recipe) : (s.setRecipe k r).agent = s.agent := rfl
@[simp] theorem State.setRecipe_profiles (k : Fin 32) (r : Option Recipe) : (s.setRecipe k r).profiles = s.profiles := rfl
@[simp] theorem State.setRecipe_routes (k : Fin 32) (r : Option Recipe) : (s.setRecipe k r).routes = s.routes := rfl
@[simp] theorem State.setRecipe_recipes (k : Fin 32) (r : Option Recipe) : (s.setRecipe k r).recipes = put s.recipes k r := rfl
@[simp] theorem State.setRecipe_blocks (k : Fin 32) (r : Option Recipe) : (s.setRecipe k r).blocks = s.blocks := rfl
@[simp] theorem State.setRecipe_records (k : Fin 32) (r : Option Recipe) : (s.setRecipe k r).records = s.records := rfl
@[simp] theorem State.setRecipe_branches (k : Fin 32) (r : Option Recipe) : (s.setRecipe k r).branches = s.branches := rfl
@[simp] theorem State.setRecipe_notices (k : Fin 32) (r : Option Recipe) : (s.setRecipe k r).notices = s.notices := rfl
@[simp] theorem State.setRecipe_threshold (k : Fin 32) (r : Option Recipe) : (s.setRecipe k r).threshold = s.threshold := rfl
@[simp] theorem State.setRecipe_lease (k : Fin 32) (r : Option Recipe) : (s.setRecipe k r).lease = s.lease := rfl
@[simp] theorem State.setRecipe_nextClaim (k : Fin 32) (r : Option Recipe) : (s.setRecipe k r).nextClaim = s.nextClaim := rfl
@[simp] theorem State.setRecipe_lost (k : Fin 32) (r : Option Recipe) : (s.setRecipe k r).lost = s.lost := rfl
@[simp] theorem State.setRecipe_attentionPending (k : Fin 32) (r : Option Recipe) : (s.setRecipe k r).attentionPending = s.attentionPending := rfl
@[simp] theorem State.setRecipe_attn (k : Fin 32) (r : Option Recipe) : (s.setRecipe k r).attn = s.attn := rfl
@[simp] theorem State.setRecipe_pending (k : Fin 32) (r : Option Recipe) : (s.setRecipe k r).pending = s.pending := rfl

/-! ### State.setBlock -/

@[simp] theorem State.setBlock_resetLow (k : Fin 32) (bytes : List Byte) : (s.setBlock k bytes).resetLow = s.resetLow := rfl
@[simp] theorem State.setBlock_now (k : Fin 32) (bytes : List Byte) : (s.setBlock k bytes).now = s.now := rfl
@[simp] theorem State.setBlock_ownAddress (k : Fin 32) (bytes : List Byte) : (s.setBlock k bytes).ownAddress = s.ownAddress := rfl
@[simp] theorem State.setBlock_tx (k : Fin 32) (bytes : List Byte) : (s.setBlock k bytes).tx = s.tx := rfl
@[simp] theorem State.setBlock_toq (k : Fin 32) (bytes : List Byte) : (s.setBlock k bytes).toq = s.toq := rfl
@[simp] theorem State.setBlock_trunkCounters (k : Fin 32) (bytes : List Byte) : (s.setBlock k bytes).trunkCounters = s.trunkCounters := rfl
@[simp] theorem State.setBlock_inq (k : Fin 32) (bytes : List Byte) : (s.setBlock k bytes).inq = s.inq := rfl
@[simp] theorem State.setBlock_agent (k : Fin 32) (bytes : List Byte) : (s.setBlock k bytes).agent = s.agent := rfl
@[simp] theorem State.setBlock_profiles (k : Fin 32) (bytes : List Byte) : (s.setBlock k bytes).profiles = s.profiles := rfl
@[simp] theorem State.setBlock_routes (k : Fin 32) (bytes : List Byte) : (s.setBlock k bytes).routes = s.routes := rfl
@[simp] theorem State.setBlock_recipes (k : Fin 32) (bytes : List Byte) : (s.setBlock k bytes).recipes = s.recipes := rfl
@[simp] theorem State.setBlock_blocks (k : Fin 32) (bytes : List Byte) : (s.setBlock k bytes).blocks = put s.blocks k bytes := rfl
@[simp] theorem State.setBlock_records (k : Fin 32) (bytes : List Byte) : (s.setBlock k bytes).records = s.records := rfl
@[simp] theorem State.setBlock_branches (k : Fin 32) (bytes : List Byte) : (s.setBlock k bytes).branches = s.branches := rfl
@[simp] theorem State.setBlock_notices (k : Fin 32) (bytes : List Byte) : (s.setBlock k bytes).notices = s.notices := rfl
@[simp] theorem State.setBlock_threshold (k : Fin 32) (bytes : List Byte) : (s.setBlock k bytes).threshold = s.threshold := rfl
@[simp] theorem State.setBlock_lease (k : Fin 32) (bytes : List Byte) : (s.setBlock k bytes).lease = s.lease := rfl
@[simp] theorem State.setBlock_nextClaim (k : Fin 32) (bytes : List Byte) : (s.setBlock k bytes).nextClaim = s.nextClaim := rfl
@[simp] theorem State.setBlock_lost (k : Fin 32) (bytes : List Byte) : (s.setBlock k bytes).lost = s.lost := rfl
@[simp] theorem State.setBlock_attentionPending (k : Fin 32) (bytes : List Byte) : (s.setBlock k bytes).attentionPending = s.attentionPending := rfl
@[simp] theorem State.setBlock_attn (k : Fin 32) (bytes : List Byte) : (s.setBlock k bytes).attn = s.attn := rfl
@[simp] theorem State.setBlock_pending (k : Fin 32) (bytes : List Byte) : (s.setBlock k bytes).pending = s.pending := rfl

/-! ### State.setProfile -/

@[simp] theorem State.setProfile_resetLow (p : Fin 4) (c : CheckProfile) : (s.setProfile p c).resetLow = s.resetLow := rfl
@[simp] theorem State.setProfile_now (p : Fin 4) (c : CheckProfile) : (s.setProfile p c).now = s.now := rfl
@[simp] theorem State.setProfile_ownAddress (p : Fin 4) (c : CheckProfile) : (s.setProfile p c).ownAddress = s.ownAddress := rfl
@[simp] theorem State.setProfile_tx (p : Fin 4) (c : CheckProfile) : (s.setProfile p c).tx = s.tx := rfl
@[simp] theorem State.setProfile_toq (p : Fin 4) (c : CheckProfile) : (s.setProfile p c).toq = s.toq := rfl
@[simp] theorem State.setProfile_trunkCounters (p : Fin 4) (c : CheckProfile) : (s.setProfile p c).trunkCounters = s.trunkCounters := rfl
@[simp] theorem State.setProfile_inq (p : Fin 4) (c : CheckProfile) : (s.setProfile p c).inq = s.inq := rfl
@[simp] theorem State.setProfile_agent (p : Fin 4) (c : CheckProfile) : (s.setProfile p c).agent = s.agent := rfl
@[simp] theorem State.setProfile_profiles (p : Fin 4) (c : CheckProfile) : (s.setProfile p c).profiles = put s.profiles p c := rfl
@[simp] theorem State.setProfile_routes (p : Fin 4) (c : CheckProfile) : (s.setProfile p c).routes = s.routes := rfl
@[simp] theorem State.setProfile_recipes (p : Fin 4) (c : CheckProfile) : (s.setProfile p c).recipes = s.recipes := rfl
@[simp] theorem State.setProfile_blocks (p : Fin 4) (c : CheckProfile) : (s.setProfile p c).blocks = s.blocks := rfl
@[simp] theorem State.setProfile_records (p : Fin 4) (c : CheckProfile) : (s.setProfile p c).records = s.records := rfl
@[simp] theorem State.setProfile_branches (p : Fin 4) (c : CheckProfile) : (s.setProfile p c).branches = s.branches := rfl
@[simp] theorem State.setProfile_notices (p : Fin 4) (c : CheckProfile) : (s.setProfile p c).notices = s.notices := rfl
@[simp] theorem State.setProfile_threshold (p : Fin 4) (c : CheckProfile) : (s.setProfile p c).threshold = s.threshold := rfl
@[simp] theorem State.setProfile_lease (p : Fin 4) (c : CheckProfile) : (s.setProfile p c).lease = s.lease := rfl
@[simp] theorem State.setProfile_nextClaim (p : Fin 4) (c : CheckProfile) : (s.setProfile p c).nextClaim = s.nextClaim := rfl
@[simp] theorem State.setProfile_lost (p : Fin 4) (c : CheckProfile) : (s.setProfile p c).lost = s.lost := rfl
@[simp] theorem State.setProfile_attentionPending (p : Fin 4) (c : CheckProfile) : (s.setProfile p c).attentionPending = s.attentionPending := rfl
@[simp] theorem State.setProfile_attn (p : Fin 4) (c : CheckProfile) : (s.setProfile p c).attn = s.attn := rfl
@[simp] theorem State.setProfile_pending (p : Fin 4) (c : CheckProfile) : (s.setProfile p c).pending = s.pending := rfl

/-! ### State.setTag -/

@[simp] theorem State.setTag_resetLow (b : Fin 4) (t : Fin 16) (r : TagRecord) : (s.setTag b t r).resetLow = s.resetLow := rfl
@[simp] theorem State.setTag_now (b : Fin 4) (t : Fin 16) (r : TagRecord) : (s.setTag b t r).now = s.now := rfl
@[simp] theorem State.setTag_ownAddress (b : Fin 4) (t : Fin 16) (r : TagRecord) : (s.setTag b t r).ownAddress = s.ownAddress := rfl
@[simp] theorem State.setTag_tx (b : Fin 4) (t : Fin 16) (r : TagRecord) : (s.setTag b t r).tx = s.tx := rfl
@[simp] theorem State.setTag_toq (b : Fin 4) (t : Fin 16) (r : TagRecord) : (s.setTag b t r).toq = s.toq := rfl
@[simp] theorem State.setTag_trunkCounters (b : Fin 4) (t : Fin 16) (r : TagRecord) : (s.setTag b t r).trunkCounters = s.trunkCounters := rfl
@[simp] theorem State.setTag_inq (b : Fin 4) (t : Fin 16) (r : TagRecord) : (s.setTag b t r).inq = s.inq := rfl
@[simp] theorem State.setTag_agent (b : Fin 4) (t : Fin 16) (r : TagRecord) : (s.setTag b t r).agent = s.agent := rfl
@[simp] theorem State.setTag_profiles (b : Fin 4) (t : Fin 16) (r : TagRecord) : (s.setTag b t r).profiles = s.profiles := rfl
@[simp] theorem State.setTag_routes (b : Fin 4) (t : Fin 16) (r : TagRecord) : (s.setTag b t r).routes = s.routes := rfl
@[simp] theorem State.setTag_recipes (b : Fin 4) (t : Fin 16) (r : TagRecord) : (s.setTag b t r).recipes = s.recipes := rfl
@[simp] theorem State.setTag_blocks (b : Fin 4) (t : Fin 16) (r : TagRecord) : (s.setTag b t r).blocks = s.blocks := rfl
@[simp] theorem State.setTag_records (b : Fin 4) (t : Fin 16) (r : TagRecord) : (s.setTag b t r).records = s.records := rfl
@[simp] theorem State.setTag_branches (b : Fin 4) (t : Fin 16) (r : TagRecord) : (s.setTag b t r).branches = put s.branches b ((s.branch b).setTag t r) := rfl
@[simp] theorem State.setTag_notices (b : Fin 4) (t : Fin 16) (r : TagRecord) : (s.setTag b t r).notices = s.notices := rfl
@[simp] theorem State.setTag_threshold (b : Fin 4) (t : Fin 16) (r : TagRecord) : (s.setTag b t r).threshold = s.threshold := rfl
@[simp] theorem State.setTag_lease (b : Fin 4) (t : Fin 16) (r : TagRecord) : (s.setTag b t r).lease = s.lease := rfl
@[simp] theorem State.setTag_nextClaim (b : Fin 4) (t : Fin 16) (r : TagRecord) : (s.setTag b t r).nextClaim = s.nextClaim := rfl
@[simp] theorem State.setTag_lost (b : Fin 4) (t : Fin 16) (r : TagRecord) : (s.setTag b t r).lost = s.lost := rfl
@[simp] theorem State.setTag_attentionPending (b : Fin 4) (t : Fin 16) (r : TagRecord) : (s.setTag b t r).attentionPending = s.attentionPending := rfl
@[simp] theorem State.setTag_attn (b : Fin 4) (t : Fin 16) (r : TagRecord) : (s.setTag b t r).attn = s.attn := rfl
@[simp] theorem State.setTag_pending (b : Fin 4) (t : Fin 16) (r : TagRecord) : (s.setTag b t r).pending = s.pending := rfl

/-! ### State.setBranchState -/

@[simp] theorem State.setBranchState_resetLow (b : Fin 4) (st : BranchState) : (s.setBranchState b st).resetLow = s.resetLow := rfl
@[simp] theorem State.setBranchState_now (b : Fin 4) (st : BranchState) : (s.setBranchState b st).now = s.now := rfl
@[simp] theorem State.setBranchState_ownAddress (b : Fin 4) (st : BranchState) : (s.setBranchState b st).ownAddress = s.ownAddress := rfl
@[simp] theorem State.setBranchState_tx (b : Fin 4) (st : BranchState) : (s.setBranchState b st).tx = s.tx := rfl
@[simp] theorem State.setBranchState_toq (b : Fin 4) (st : BranchState) : (s.setBranchState b st).toq = s.toq := rfl
@[simp] theorem State.setBranchState_trunkCounters (b : Fin 4) (st : BranchState) : (s.setBranchState b st).trunkCounters = s.trunkCounters := rfl
@[simp] theorem State.setBranchState_inq (b : Fin 4) (st : BranchState) : (s.setBranchState b st).inq = s.inq := rfl
@[simp] theorem State.setBranchState_agent (b : Fin 4) (st : BranchState) : (s.setBranchState b st).agent = s.agent := rfl
@[simp] theorem State.setBranchState_profiles (b : Fin 4) (st : BranchState) : (s.setBranchState b st).profiles = s.profiles := rfl
@[simp] theorem State.setBranchState_routes (b : Fin 4) (st : BranchState) : (s.setBranchState b st).routes = s.routes := rfl
@[simp] theorem State.setBranchState_recipes (b : Fin 4) (st : BranchState) : (s.setBranchState b st).recipes = s.recipes := rfl
@[simp] theorem State.setBranchState_blocks (b : Fin 4) (st : BranchState) : (s.setBranchState b st).blocks = s.blocks := rfl
@[simp] theorem State.setBranchState_records (b : Fin 4) (st : BranchState) : (s.setBranchState b st).records = s.records := rfl
@[simp] theorem State.setBranchState_branches (b : Fin 4) (st : BranchState) : (s.setBranchState b st).branches = put s.branches b { s.branch b with state := st } := rfl
@[simp] theorem State.setBranchState_notices (b : Fin 4) (st : BranchState) : (s.setBranchState b st).notices = s.notices := rfl
@[simp] theorem State.setBranchState_threshold (b : Fin 4) (st : BranchState) : (s.setBranchState b st).threshold = s.threshold := rfl
@[simp] theorem State.setBranchState_lease (b : Fin 4) (st : BranchState) : (s.setBranchState b st).lease = s.lease := rfl
@[simp] theorem State.setBranchState_nextClaim (b : Fin 4) (st : BranchState) : (s.setBranchState b st).nextClaim = s.nextClaim := rfl
@[simp] theorem State.setBranchState_lost (b : Fin 4) (st : BranchState) : (s.setBranchState b st).lost = s.lost := rfl
@[simp] theorem State.setBranchState_attentionPending (b : Fin 4) (st : BranchState) : (s.setBranchState b st).attentionPending = s.attentionPending := rfl
@[simp] theorem State.setBranchState_attn (b : Fin 4) (st : BranchState) : (s.setBranchState b st).attn = s.attn := rfl
@[simp] theorem State.setBranchState_pending (b : Fin 4) (st : BranchState) : (s.setBranchState b st).pending = s.pending := rfl

/-! ### State.setLive -/

@[simp] theorem State.setLive_resetLow (i : Fin 128) (r : LiveRoute) : (s.setLive i r).resetLow = s.resetLow := rfl
@[simp] theorem State.setLive_now (i : Fin 128) (r : LiveRoute) : (s.setLive i r).now = s.now := rfl
@[simp] theorem State.setLive_ownAddress (i : Fin 128) (r : LiveRoute) : (s.setLive i r).ownAddress = s.ownAddress := rfl
@[simp] theorem State.setLive_tx (i : Fin 128) (r : LiveRoute) : (s.setLive i r).tx = s.tx := rfl
@[simp] theorem State.setLive_toq (i : Fin 128) (r : LiveRoute) : (s.setLive i r).toq = s.toq := rfl
@[simp] theorem State.setLive_trunkCounters (i : Fin 128) (r : LiveRoute) : (s.setLive i r).trunkCounters = s.trunkCounters := rfl
@[simp] theorem State.setLive_inq (i : Fin 128) (r : LiveRoute) : (s.setLive i r).inq = s.inq := rfl
@[simp] theorem State.setLive_agent (i : Fin 128) (r : LiveRoute) : (s.setLive i r).agent = s.agent := rfl
@[simp] theorem State.setLive_profiles (i : Fin 128) (r : LiveRoute) : (s.setLive i r).profiles = s.profiles := rfl
@[simp] theorem State.setLive_routes (i : Fin 128) (r : LiveRoute) : (s.setLive i r).routes = put s.routes i { s.route i with live := some r } := rfl
@[simp] theorem State.setLive_recipes (i : Fin 128) (r : LiveRoute) : (s.setLive i r).recipes = s.recipes := rfl
@[simp] theorem State.setLive_blocks (i : Fin 128) (r : LiveRoute) : (s.setLive i r).blocks = s.blocks := rfl
@[simp] theorem State.setLive_records (i : Fin 128) (r : LiveRoute) : (s.setLive i r).records = s.records := rfl
@[simp] theorem State.setLive_branches (i : Fin 128) (r : LiveRoute) : (s.setLive i r).branches = s.branches := rfl
@[simp] theorem State.setLive_notices (i : Fin 128) (r : LiveRoute) : (s.setLive i r).notices = s.notices := rfl
@[simp] theorem State.setLive_threshold (i : Fin 128) (r : LiveRoute) : (s.setLive i r).threshold = s.threshold := rfl
@[simp] theorem State.setLive_lease (i : Fin 128) (r : LiveRoute) : (s.setLive i r).lease = s.lease := rfl
@[simp] theorem State.setLive_nextClaim (i : Fin 128) (r : LiveRoute) : (s.setLive i r).nextClaim = s.nextClaim := rfl
@[simp] theorem State.setLive_lost (i : Fin 128) (r : LiveRoute) : (s.setLive i r).lost = s.lost := rfl
@[simp] theorem State.setLive_attentionPending (i : Fin 128) (r : LiveRoute) : (s.setLive i r).attentionPending = s.attentionPending := rfl
@[simp] theorem State.setLive_attn (i : Fin 128) (r : LiveRoute) : (s.setLive i r).attn = s.attn := rfl
@[simp] theorem State.setLive_pending (i : Fin 128) (r : LiveRoute) : (s.setLive i r).pending = s.pending := rfl

/-! ### State.bumpTrunk -/

@[simp] theorem State.bumpTrunk_resetLow (c : TrunkCounter) : (s.bumpTrunk c).resetLow = s.resetLow := rfl
@[simp] theorem State.bumpTrunk_now (c : TrunkCounter) : (s.bumpTrunk c).now = s.now := rfl
@[simp] theorem State.bumpTrunk_ownAddress (c : TrunkCounter) : (s.bumpTrunk c).ownAddress = s.ownAddress := rfl
@[simp] theorem State.bumpTrunk_tx (c : TrunkCounter) : (s.bumpTrunk c).tx = s.tx := rfl
@[simp] theorem State.bumpTrunk_toq (c : TrunkCounter) : (s.bumpTrunk c).toq = s.toq := rfl
@[simp] theorem State.bumpTrunk_trunkCounters (c : TrunkCounter) : (s.bumpTrunk c).trunkCounters = put s.trunkCounters c.index (satInc (look s.trunkCounters c.index)) := rfl
@[simp] theorem State.bumpTrunk_inq (c : TrunkCounter) : (s.bumpTrunk c).inq = s.inq := rfl
@[simp] theorem State.bumpTrunk_agent (c : TrunkCounter) : (s.bumpTrunk c).agent = s.agent := rfl
@[simp] theorem State.bumpTrunk_profiles (c : TrunkCounter) : (s.bumpTrunk c).profiles = s.profiles := rfl
@[simp] theorem State.bumpTrunk_routes (c : TrunkCounter) : (s.bumpTrunk c).routes = s.routes := rfl
@[simp] theorem State.bumpTrunk_recipes (c : TrunkCounter) : (s.bumpTrunk c).recipes = s.recipes := rfl
@[simp] theorem State.bumpTrunk_blocks (c : TrunkCounter) : (s.bumpTrunk c).blocks = s.blocks := rfl
@[simp] theorem State.bumpTrunk_records (c : TrunkCounter) : (s.bumpTrunk c).records = s.records := rfl
@[simp] theorem State.bumpTrunk_branches (c : TrunkCounter) : (s.bumpTrunk c).branches = s.branches := rfl
@[simp] theorem State.bumpTrunk_notices (c : TrunkCounter) : (s.bumpTrunk c).notices = s.notices := rfl
@[simp] theorem State.bumpTrunk_threshold (c : TrunkCounter) : (s.bumpTrunk c).threshold = s.threshold := rfl
@[simp] theorem State.bumpTrunk_lease (c : TrunkCounter) : (s.bumpTrunk c).lease = s.lease := rfl
@[simp] theorem State.bumpTrunk_nextClaim (c : TrunkCounter) : (s.bumpTrunk c).nextClaim = s.nextClaim := rfl
@[simp] theorem State.bumpTrunk_lost (c : TrunkCounter) : (s.bumpTrunk c).lost = s.lost := rfl
@[simp] theorem State.bumpTrunk_attentionPending (c : TrunkCounter) : (s.bumpTrunk c).attentionPending = s.attentionPending := rfl
@[simp] theorem State.bumpTrunk_attn (c : TrunkCounter) : (s.bumpTrunk c).attn = s.attn := rfl
@[simp] theorem State.bumpTrunk_pending (c : TrunkCounter) : (s.bumpTrunk c).pending = s.pending := rfl

/-! ### State.bumpBranch -/

@[simp] theorem State.bumpBranch_resetLow (b : Fin 4) (c : BranchCounter) : (s.bumpBranch b c).resetLow = s.resetLow := rfl
@[simp] theorem State.bumpBranch_now (b : Fin 4) (c : BranchCounter) : (s.bumpBranch b c).now = s.now := rfl
@[simp] theorem State.bumpBranch_ownAddress (b : Fin 4) (c : BranchCounter) : (s.bumpBranch b c).ownAddress = s.ownAddress := rfl
@[simp] theorem State.bumpBranch_tx (b : Fin 4) (c : BranchCounter) : (s.bumpBranch b c).tx = s.tx := rfl
@[simp] theorem State.bumpBranch_toq (b : Fin 4) (c : BranchCounter) : (s.bumpBranch b c).toq = s.toq := rfl
@[simp] theorem State.bumpBranch_trunkCounters (b : Fin 4) (c : BranchCounter) : (s.bumpBranch b c).trunkCounters = s.trunkCounters := rfl
@[simp] theorem State.bumpBranch_inq (b : Fin 4) (c : BranchCounter) : (s.bumpBranch b c).inq = s.inq := rfl
@[simp] theorem State.bumpBranch_agent (b : Fin 4) (c : BranchCounter) : (s.bumpBranch b c).agent = s.agent := rfl
@[simp] theorem State.bumpBranch_profiles (b : Fin 4) (c : BranchCounter) : (s.bumpBranch b c).profiles = s.profiles := rfl
@[simp] theorem State.bumpBranch_routes (b : Fin 4) (c : BranchCounter) : (s.bumpBranch b c).routes = s.routes := rfl
@[simp] theorem State.bumpBranch_recipes (b : Fin 4) (c : BranchCounter) : (s.bumpBranch b c).recipes = s.recipes := rfl
@[simp] theorem State.bumpBranch_blocks (b : Fin 4) (c : BranchCounter) : (s.bumpBranch b c).blocks = s.blocks := rfl
@[simp] theorem State.bumpBranch_records (b : Fin 4) (c : BranchCounter) : (s.bumpBranch b c).records = s.records := rfl
@[simp] theorem State.bumpBranch_branches (b : Fin 4) (c : BranchCounter) : (s.bumpBranch b c).branches = put s.branches b ((s.branch b).bump c) := rfl
@[simp] theorem State.bumpBranch_notices (b : Fin 4) (c : BranchCounter) : (s.bumpBranch b c).notices = s.notices := rfl
@[simp] theorem State.bumpBranch_threshold (b : Fin 4) (c : BranchCounter) : (s.bumpBranch b c).threshold = s.threshold := rfl
@[simp] theorem State.bumpBranch_lease (b : Fin 4) (c : BranchCounter) : (s.bumpBranch b c).lease = s.lease := rfl
@[simp] theorem State.bumpBranch_nextClaim (b : Fin 4) (c : BranchCounter) : (s.bumpBranch b c).nextClaim = s.nextClaim := rfl
@[simp] theorem State.bumpBranch_lost (b : Fin 4) (c : BranchCounter) : (s.bumpBranch b c).lost = s.lost := rfl
@[simp] theorem State.bumpBranch_attentionPending (b : Fin 4) (c : BranchCounter) : (s.bumpBranch b c).attentionPending = s.attentionPending := rfl
@[simp] theorem State.bumpBranch_attn (b : Fin 4) (c : BranchCounter) : (s.bumpBranch b c).attn = s.attn := rfl
@[simp] theorem State.bumpBranch_pending (b : Fin 4) (c : BranchCounter) : (s.bumpBranch b c).pending = s.pending := rfl

/-! ### State.reach -/

@[simp] theorem State.reach_resetLow (d : Time) : (s.reach d).resetLow = s.resetLow := rfl
@[simp] theorem State.reach_now (d : Time) : (s.reach d).now = max s.now d := rfl
@[simp] theorem State.reach_ownAddress (d : Time) : (s.reach d).ownAddress = s.ownAddress := rfl
@[simp] theorem State.reach_tx (d : Time) : (s.reach d).tx = s.tx := rfl
@[simp] theorem State.reach_toq (d : Time) : (s.reach d).toq = s.toq := rfl
@[simp] theorem State.reach_trunkCounters (d : Time) : (s.reach d).trunkCounters = s.trunkCounters := rfl
@[simp] theorem State.reach_inq (d : Time) : (s.reach d).inq = s.inq := rfl
@[simp] theorem State.reach_agent (d : Time) : (s.reach d).agent = s.agent := rfl
@[simp] theorem State.reach_profiles (d : Time) : (s.reach d).profiles = s.profiles := rfl
@[simp] theorem State.reach_routes (d : Time) : (s.reach d).routes = s.routes := rfl
@[simp] theorem State.reach_recipes (d : Time) : (s.reach d).recipes = s.recipes := rfl
@[simp] theorem State.reach_blocks (d : Time) : (s.reach d).blocks = s.blocks := rfl
@[simp] theorem State.reach_records (d : Time) : (s.reach d).records = s.records := rfl
@[simp] theorem State.reach_branches (d : Time) : (s.reach d).branches = s.branches := rfl
@[simp] theorem State.reach_notices (d : Time) : (s.reach d).notices = s.notices := rfl
@[simp] theorem State.reach_threshold (d : Time) : (s.reach d).threshold = s.threshold := rfl
@[simp] theorem State.reach_lease (d : Time) : (s.reach d).lease = s.lease := rfl
@[simp] theorem State.reach_nextClaim (d : Time) : (s.reach d).nextClaim = s.nextClaim := rfl
@[simp] theorem State.reach_lost (d : Time) : (s.reach d).lost = s.lost := rfl
@[simp] theorem State.reach_attentionPending (d : Time) : (s.reach d).attentionPending = s.attentionPending := rfl
@[simp] theorem State.reach_attn (d : Time) : (s.reach d).attn = s.attn := rfl
@[simp] theorem State.reach_pending (d : Time) : (s.reach d).pending = s.pending := rfl

/-! ### State.join -/

@[simp] theorem State.join_resetLow (place : Place) (f : TrunkFrame) : (s.join place f).resetLow = s.resetLow := rfl
@[simp] theorem State.join_now (place : Place) (f : TrunkFrame) : (s.join place f).now = s.now := rfl
@[simp] theorem State.join_ownAddress (place : Place) (f : TrunkFrame) : (s.join place f).ownAddress = s.ownAddress := rfl
@[simp] theorem State.join_toq (place : Place) (f : TrunkFrame) : (s.join place f).toq = s.toq ++ [⟨f, place⟩] := rfl
@[simp] theorem State.join_trunkCounters (place : Place) (f : TrunkFrame) : (s.join place f).trunkCounters = s.trunkCounters := rfl
@[simp] theorem State.join_inq (place : Place) (f : TrunkFrame) : (s.join place f).inq = s.inq := rfl
@[simp] theorem State.join_agent (place : Place) (f : TrunkFrame) : (s.join place f).agent = s.agent := rfl
@[simp] theorem State.join_profiles (place : Place) (f : TrunkFrame) : (s.join place f).profiles = s.profiles := rfl
@[simp] theorem State.join_routes (place : Place) (f : TrunkFrame) : (s.join place f).routes = s.routes := rfl
@[simp] theorem State.join_recipes (place : Place) (f : TrunkFrame) : (s.join place f).recipes = s.recipes := rfl
@[simp] theorem State.join_blocks (place : Place) (f : TrunkFrame) : (s.join place f).blocks = s.blocks := rfl
@[simp] theorem State.join_records (place : Place) (f : TrunkFrame) : (s.join place f).records = s.records := rfl
@[simp] theorem State.join_branches (place : Place) (f : TrunkFrame) : (s.join place f).branches = s.branches := rfl
@[simp] theorem State.join_notices (place : Place) (f : TrunkFrame) : (s.join place f).notices = s.notices := rfl
@[simp] theorem State.join_threshold (place : Place) (f : TrunkFrame) : (s.join place f).threshold = s.threshold := rfl
@[simp] theorem State.join_lease (place : Place) (f : TrunkFrame) : (s.join place f).lease = s.lease := rfl
@[simp] theorem State.join_nextClaim (place : Place) (f : TrunkFrame) : (s.join place f).nextClaim = s.nextClaim := rfl
@[simp] theorem State.join_lost (place : Place) (f : TrunkFrame) : (s.join place f).lost = s.lost := rfl
@[simp] theorem State.join_attentionPending (place : Place) (f : TrunkFrame) : (s.join place f).attentionPending = s.attentionPending := rfl
@[simp] theorem State.join_attn (place : Place) (f : TrunkFrame) : (s.join place f).attn = s.attn := rfl
@[simp] theorem State.join_pending (place : Place) (f : TrunkFrame) : (s.join place f).pending = s.pending := rfl
@[simp] theorem State.join_tx (place : Place) (f : TrunkFrame) :
    (s.join place f).tx = if s.tx = .idle then .sending else s.tx := by
  cases h : s.tx <;> simp [State.join, h]

/-! ### BranchPort -/

variable (p : BranchPort)

@[simp] theorem BranchPort.setTag_state (t : Fin 16) (r : TagRecord) : (p.setTag t r).state = p.state := rfl
@[simp] theorem BranchPort.setTag_settings (t : Fin 16) (r : TagRecord) : (p.setTag t r).settings = p.settings := rfl
@[simp] theorem BranchPort.setTag_urgentQueue (t : Fin 16) (r : TagRecord) : (p.setTag t r).urgentQueue = p.urgentQueue := rfl
@[simp] theorem BranchPort.setTag_normalQueue (t : Fin 16) (r : TagRecord) : (p.setTag t r).normalQueue = p.normalQueue := rfl
@[simp] theorem BranchPort.setTag_tx (t : Fin 16) (r : TagRecord) : (p.setTag t r).tx = p.tx := rfl
@[simp] theorem BranchPort.setTag_tags (t : Fin 16) (r : TagRecord) : (p.setTag t r).tags = put p.tags t r := rfl
@[simp] theorem BranchPort.setTag_consecutive (t : Fin 16) (r : TagRecord) : (p.setTag t r).consecutive = p.consecutive := rfl
@[simp] theorem BranchPort.setTag_counters (t : Fin 16) (r : TagRecord) : (p.setTag t r).counters = p.counters := rfl

@[simp] theorem BranchPort.bump_state (c : BranchCounter) : (p.bump c).state = p.state := rfl
@[simp] theorem BranchPort.bump_settings (c : BranchCounter) : (p.bump c).settings = p.settings := rfl
@[simp] theorem BranchPort.bump_urgentQueue (c : BranchCounter) : (p.bump c).urgentQueue = p.urgentQueue := rfl
@[simp] theorem BranchPort.bump_normalQueue (c : BranchCounter) : (p.bump c).normalQueue = p.normalQueue := rfl
@[simp] theorem BranchPort.bump_tx (c : BranchCounter) : (p.bump c).tx = p.tx := rfl
@[simp] theorem BranchPort.bump_tags (c : BranchCounter) : (p.bump c).tags = p.tags := rfl
@[simp] theorem BranchPort.bump_consecutive (c : BranchCounter) : (p.bump c).consecutive = p.consecutive := rfl
@[simp] theorem BranchPort.bump_counters (c : BranchCounter) : (p.bump c).counters = put p.counters c.index (satInc (look p.counters c.index)) := rfl

@[simp] theorem BranchPort.enqueue_state (urgent : Bool) (slot : Fin 32) : (p.enqueue urgent slot).state = p.state := by
  cases urgent <;> rfl
@[simp] theorem BranchPort.enqueue_settings (urgent : Bool) (slot : Fin 32) : (p.enqueue urgent slot).settings = p.settings := by
  cases urgent <;> rfl
@[simp] theorem BranchPort.enqueue_tx (urgent : Bool) (slot : Fin 32) : (p.enqueue urgent slot).tx = p.tx := by
  cases urgent <;> rfl
@[simp] theorem BranchPort.enqueue_tags (urgent : Bool) (slot : Fin 32) : (p.enqueue urgent slot).tags = p.tags := by
  cases urgent <;> rfl
@[simp] theorem BranchPort.enqueue_consecutive (urgent : Bool) (slot : Fin 32) : (p.enqueue urgent slot).consecutive = p.consecutive := by
  cases urgent <;> rfl
@[simp] theorem BranchPort.enqueue_counters (urgent : Bool) (slot : Fin 32) : (p.enqueue urgent slot).counters = p.counters := by
  cases urgent <;> rfl

@[simp] theorem BranchPort.dequeue_state (slot : Fin 32) : (p.dequeue slot).state = p.state := rfl
@[simp] theorem BranchPort.dequeue_settings (slot : Fin 32) : (p.dequeue slot).settings = p.settings := rfl
@[simp] theorem BranchPort.dequeue_tx (slot : Fin 32) : (p.dequeue slot).tx = p.tx := rfl
@[simp] theorem BranchPort.dequeue_tags (slot : Fin 32) : (p.dequeue slot).tags = p.tags := rfl
@[simp] theorem BranchPort.dequeue_consecutive (slot : Fin 32) : (p.dequeue slot).consecutive = p.consecutive := rfl
@[simp] theorem BranchPort.dequeue_counters (slot : Fin 32) : (p.dequeue slot).counters = p.counters := rfl

@[simp] theorem BranchPort.coolTag_state (now : Time) (t : Fin 16) : (BranchPort.coolTag now p t).state = p.state := by
  unfold BranchPort.coolTag; split <;> rfl
@[simp] theorem BranchPort.coolTag_settings (now : Time) (t : Fin 16) : (BranchPort.coolTag now p t).settings = p.settings := by
  unfold BranchPort.coolTag; split <;> rfl
@[simp] theorem BranchPort.coolTag_urgentQueue (now : Time) (t : Fin 16) : (BranchPort.coolTag now p t).urgentQueue = p.urgentQueue := by
  unfold BranchPort.coolTag; split <;> rfl
@[simp] theorem BranchPort.coolTag_normalQueue (now : Time) (t : Fin 16) : (BranchPort.coolTag now p t).normalQueue = p.normalQueue := by
  unfold BranchPort.coolTag; split <;> rfl
@[simp] theorem BranchPort.coolTag_tx (now : Time) (t : Fin 16) : (BranchPort.coolTag now p t).tx = p.tx := by
  unfold BranchPort.coolTag; split <;> rfl
@[simp] theorem BranchPort.coolTag_consecutive (now : Time) (t : Fin 16) : (BranchPort.coolTag now p t).consecutive = p.consecutive := by
  unfold BranchPort.coolTag; split <;> rfl
@[simp] theorem BranchPort.coolTag_counters (now : Time) (t : Fin 16) : (BranchPort.coolTag now p t).counters = p.counters := by
  unfold BranchPort.coolTag; split <;> rfl

@[simp] theorem BranchPort.enqueue_urgentQueue (urgent : Bool) (slot : Fin 32) :
    (p.enqueue urgent slot).urgentQueue = p.urgentQueue ++ if urgent then [slot] else [] := by
  cases urgent <;> simp [BranchPort.enqueue]

@[simp] theorem BranchPort.enqueue_normalQueue (urgent : Bool) (slot : Fin 32) :
    (p.enqueue urgent slot).normalQueue = p.normalQueue ++ if urgent then [] else [slot] := by
  cases urgent <;> simp [BranchPort.enqueue]

/-! ### The parts of State by index -/

theorem State.branch_setBranch (b c : Fin 4) : (s.setBranch b p).branch c = if b = c then p else s.branch c :=
  look_put _ _ _ _

@[simp] theorem State.branch_setBranch_self (b : Fin 4) : (s.setBranch b p).branch b = p := look_put_self _ _ _

theorem State.record_setRecord (i j : Fin 32) (r : Option Record) :
    (s.setRecord i r).record j = if i = j then r else s.record j :=
  look_put _ _ _ _

@[simp] theorem State.record_setRecord_self (i : Fin 32) (r : Option Record) :
    (s.setRecord i r).record i = r :=
  look_put_self _ _ _

theorem State.route_setRoute (i j : Fin 128) (e : RouteEntry) :
    (s.setRoute i e).route j = if i = j then e else s.route j :=
  look_put _ _ _ _

@[simp] theorem State.route_setRoute_self (i : Fin 128) (e : RouteEntry) : (s.setRoute i e).route i = e :=
  look_put_self _ _ _

theorem State.recipe_setRecipe (k l : Fin 32) (r : Option Recipe) :
    (s.setRecipe k r).recipe l = if k = l then r else s.recipe l :=
  look_put _ _ _ _

theorem State.block_setBlock (k l : Fin 32) (bytes : List Byte) :
    (s.setBlock k bytes).block l = if k = l then bytes else s.block l :=
  look_put _ _ _ _

theorem State.profile_setProfile (q r : Fin 4) (c : CheckProfile) :
    (s.setProfile q c).profile r = if q = r then c else s.profile r :=
  look_put _ _ _ _

theorem BranchPort.tag_setTag (t u : Fin 16) (r : TagRecord) :
    (p.setTag t r).tag u = if t = u then r else p.tag u :=
  look_put _ _ _ _

end Sys2Proof.Machine
end

