-- ==== Sys2Proof/Laws/Frames.lean ====
section
/-! SUPPORT. What each shared operation leaves alone: one lemma per operation per field it does not write, so that no
later proof unfolds it. The operations' own effects stand in Laws/Ops.lean. -/

namespace Sys2Proof.Machine

variable (s : State)

/-- A fold keeps what each of its steps keeps. -/
theorem State.foldl_keeps {α β : Type} (f : State → β) (g : State → α → State) (h : ∀ s a, f (g s a) = f s)
    (l : List α) (s : State) : f (l.foldl g s) = f s := by
  induction l generalizing s with
  | nil => rfl
  | cons a l ih => rw [List.foldl_cons, ih, h]

@[simp] theorem State.joinOrDrop_frame (f : TrunkFrame) :
    (s.joinOrDrop f).resetLow = s.resetLow ∧ (s.joinOrDrop f).now = s.now ∧ (s.joinOrDrop f).ownAddress =
    s.ownAddress ∧ (s.joinOrDrop f).inq = s.inq ∧ (s.joinOrDrop f).agent = s.agent ∧ (s.joinOrDrop
    f).profiles = s.profiles ∧ (s.joinOrDrop f).routes = s.routes ∧ (s.joinOrDrop f).recipes = s.recipes ∧
    (s.joinOrDrop f).blocks = s.blocks ∧ (s.joinOrDrop f).records = s.records ∧ (s.joinOrDrop f).branches
    = s.branches ∧ (s.joinOrDrop f).notices = s.notices ∧ (s.joinOrDrop f).threshold = s.threshold ∧
    (s.joinOrDrop f).lease = s.lease ∧ (s.joinOrDrop f).nextClaim = s.nextClaim ∧ (s.joinOrDrop f).lost =
    s.lost ∧ (s.joinOrDrop f).attentionPending = s.attentionPending ∧ (s.joinOrDrop f).attn = s.attn ∧
    (s.joinOrDrop f).pending = s.pending := by
  unfold State.joinOrDrop; split <;> simp

@[simp] theorem State.requestAttention_frame :
    (s.requestAttention).resetLow = s.resetLow ∧ (s.requestAttention).now = s.now ∧
    (s.requestAttention).ownAddress = s.ownAddress ∧ (s.requestAttention).trunkCounters = s.trunkCounters
    ∧ (s.requestAttention).inq = s.inq ∧ (s.requestAttention).agent = s.agent ∧
    (s.requestAttention).profiles = s.profiles ∧ (s.requestAttention).routes = s.routes ∧
    (s.requestAttention).recipes = s.recipes ∧ (s.requestAttention).blocks = s.blocks ∧
    (s.requestAttention).records = s.records ∧ (s.requestAttention).branches = s.branches ∧
    (s.requestAttention).notices = s.notices ∧ (s.requestAttention).threshold = s.threshold ∧
    (s.requestAttention).lease = s.lease ∧ (s.requestAttention).nextClaim = s.nextClaim ∧
    (s.requestAttention).lost = s.lost ∧ (s.requestAttention).attn = s.attn ∧ (s.requestAttention).pending
    = s.pending := by
  unfold State.requestAttention; repeat' split
  all_goals simp

@[simp] theorem State.judgeAttention_frame :
    (s.judgeAttention).resetLow = s.resetLow ∧ (s.judgeAttention).now = s.now ∧
    (s.judgeAttention).ownAddress = s.ownAddress ∧ (s.judgeAttention).trunkCounters = s.trunkCounters ∧
    (s.judgeAttention).inq = s.inq ∧ (s.judgeAttention).agent = s.agent ∧ (s.judgeAttention).profiles =
    s.profiles ∧ (s.judgeAttention).routes = s.routes ∧ (s.judgeAttention).recipes = s.recipes ∧
    (s.judgeAttention).blocks = s.blocks ∧ (s.judgeAttention).records = s.records ∧
    (s.judgeAttention).branches = s.branches ∧ (s.judgeAttention).notices = s.notices ∧
    (s.judgeAttention).threshold = s.threshold ∧ (s.judgeAttention).lease = s.lease ∧
    (s.judgeAttention).nextClaim = s.nextClaim ∧ (s.judgeAttention).lost = s.lost ∧
    (s.judgeAttention).pending = s.pending := by
  unfold State.judgeAttention; repeat' split
  all_goals simp

@[simp] theorem State.arrive_frame (n : Notice) :
    (s.arrive n).resetLow = s.resetLow ∧ (s.arrive n).now = s.now ∧ (s.arrive n).ownAddress = s.ownAddress
    ∧ (s.arrive n).tx = s.tx ∧ (s.arrive n).toq = s.toq ∧ (s.arrive n).trunkCounters = s.trunkCounters ∧
    (s.arrive n).inq = s.inq ∧ (s.arrive n).agent = s.agent ∧ (s.arrive n).profiles = s.profiles ∧
    (s.arrive n).routes = s.routes ∧ (s.arrive n).recipes = s.recipes ∧ (s.arrive n).blocks = s.blocks ∧
    (s.arrive n).records = s.records ∧ (s.arrive n).branches = s.branches ∧ (s.arrive n).threshold =
    s.threshold ∧ (s.arrive n).lease = s.lease ∧ (s.arrive n).nextClaim = s.nextClaim ∧ (s.arrive
    n).attentionPending = s.attentionPending ∧ (s.arrive n).attn = s.attn ∧ (s.arrive n).pending =
    s.pending := by
  unfold State.arrive; repeat' split
  all_goals simp

@[simp] theorem State.post_frame (n : Notice) :
    (s.post n).resetLow = s.resetLow ∧ (s.post n).now = s.now ∧ (s.post n).ownAddress = s.ownAddress ∧
    (s.post n).trunkCounters = s.trunkCounters ∧ (s.post n).inq = s.inq ∧ (s.post n).agent = s.agent ∧
    (s.post n).profiles = s.profiles ∧ (s.post n).routes = s.routes ∧ (s.post n).recipes = s.recipes ∧
    (s.post n).blocks = s.blocks ∧ (s.post n).records = s.records ∧ (s.post n).branches = s.branches ∧
    (s.post n).threshold = s.threshold ∧ (s.post n).lease = s.lease ∧ (s.post n).nextClaim = s.nextClaim ∧
    (s.post n).pending = s.pending := by
  simp [State.post]

@[simp] theorem State.reportMatched_frame (snap : Snapshot) :
    (s.reportMatched snap).resetLow = s.resetLow ∧ (s.reportMatched snap).now = s.now ∧ (s.reportMatched
    snap).ownAddress = s.ownAddress ∧ (s.reportMatched snap).tx = s.tx ∧ (s.reportMatched snap).toq =
    s.toq ∧ (s.reportMatched snap).trunkCounters = s.trunkCounters ∧ (s.reportMatched snap).inq = s.inq ∧
    (s.reportMatched snap).agent = s.agent ∧ (s.reportMatched snap).profiles = s.profiles ∧
    (s.reportMatched snap).recipes = s.recipes ∧ (s.reportMatched snap).blocks = s.blocks ∧
    (s.reportMatched snap).records = s.records ∧ (s.reportMatched snap).branches = s.branches ∧
    (s.reportMatched snap).notices = s.notices ∧ (s.reportMatched snap).threshold = s.threshold ∧
    (s.reportMatched snap).lease = s.lease ∧ (s.reportMatched snap).nextClaim = s.nextClaim ∧
    (s.reportMatched snap).lost = s.lost ∧ (s.reportMatched snap).attentionPending = s.attentionPending ∧
    (s.reportMatched snap).attn = s.attn ∧ (s.reportMatched snap).pending = s.pending := by
  unfold State.reportMatched; split <;> simp

@[simp] theorem State.reportTimeout_frame (snap : Snapshot) :
    (s.reportTimeout snap).resetLow = s.resetLow ∧ (s.reportTimeout snap).now = s.now ∧ (s.reportTimeout
    snap).ownAddress = s.ownAddress ∧ (s.reportTimeout snap).trunkCounters = s.trunkCounters ∧
    (s.reportTimeout snap).inq = s.inq ∧ (s.reportTimeout snap).agent = s.agent ∧ (s.reportTimeout
    snap).profiles = s.profiles ∧ (s.reportTimeout snap).recipes = s.recipes ∧ (s.reportTimeout
    snap).blocks = s.blocks ∧ (s.reportTimeout snap).records = s.records ∧ (s.reportTimeout snap).branches
    = s.branches ∧ (s.reportTimeout snap).threshold = s.threshold ∧ (s.reportTimeout snap).lease = s.lease
    ∧ (s.reportTimeout snap).nextClaim = s.nextClaim ∧ (s.reportTimeout snap).pending = s.pending := by
  simp only [State.reportTimeout]; repeat' split
  all_goals simp

@[simp] theorem State.reportEnding_frame (snap : Snapshot) (e : Ending) :
    (s.reportEnding snap e).resetLow = s.resetLow ∧ (s.reportEnding snap e).now = s.now ∧ (s.reportEnding
    snap e).ownAddress = s.ownAddress ∧ (s.reportEnding snap e).trunkCounters = s.trunkCounters ∧
    (s.reportEnding snap e).inq = s.inq ∧ (s.reportEnding snap e).agent = s.agent ∧ (s.reportEnding snap
    e).profiles = s.profiles ∧ (s.reportEnding snap e).recipes = s.recipes ∧ (s.reportEnding snap
    e).blocks = s.blocks ∧ (s.reportEnding snap e).records = s.records ∧ (s.reportEnding snap e).branches
    = s.branches ∧ (s.reportEnding snap e).threshold = s.threshold ∧ (s.reportEnding snap e).lease =
    s.lease ∧ (s.reportEnding snap e).nextClaim = s.nextClaim ∧ (s.reportEnding snap e).pending =
    s.pending := by
  cases e <;> simp [State.reportEnding]

@[simp] theorem State.endRecord_frame (slot : Fin 32) (r : Record) (e : Ending) :
    (s.endRecord slot r e).resetLow = s.resetLow ∧ (s.endRecord slot r e).now = s.now ∧ (s.endRecord slot
    r e).ownAddress = s.ownAddress ∧ (s.endRecord slot r e).inq = s.inq ∧ (s.endRecord slot r e).agent =
    s.agent ∧ (s.endRecord slot r e).profiles = s.profiles ∧ (s.endRecord slot r e).recipes = s.recipes ∧
    (s.endRecord slot r e).blocks = s.blocks ∧ (s.endRecord slot r e).branches = s.branches ∧ (s.endRecord
    slot r e).threshold = s.threshold ∧ (s.endRecord slot r e).lease = s.lease ∧ (s.endRecord slot r
    e).nextClaim = s.nextClaim ∧ (s.endRecord slot r e).pending = s.pending := by
  simp [State.endRecord]

@[simp] theorem State.checkDrained_frame (b : Fin 4) :
    (s.checkDrained b).resetLow = s.resetLow ∧ (s.checkDrained b).now = s.now ∧ (s.checkDrained
    b).ownAddress = s.ownAddress ∧ (s.checkDrained b).trunkCounters = s.trunkCounters ∧ (s.checkDrained
    b).inq = s.inq ∧ (s.checkDrained b).agent = s.agent ∧ (s.checkDrained b).profiles = s.profiles ∧
    (s.checkDrained b).routes = s.routes ∧ (s.checkDrained b).recipes = s.recipes ∧ (s.checkDrained
    b).blocks = s.blocks ∧ (s.checkDrained b).records = s.records ∧ (s.checkDrained b).threshold =
    s.threshold ∧ (s.checkDrained b).lease = s.lease ∧ (s.checkDrained b).nextClaim = s.nextClaim ∧
    (s.checkDrained b).pending = s.pending := by
  unfold State.checkDrained; split <;> simp

@[simp] theorem State.endTransaction_frame (slot : Fin 32) (r : Record) (e : Ending) :
    (s.endTransaction slot r e).resetLow = s.resetLow ∧ (s.endTransaction slot r e).now = s.now ∧
    (s.endTransaction slot r e).ownAddress = s.ownAddress ∧ (s.endTransaction slot r e).inq = s.inq ∧
    (s.endTransaction slot r e).agent = s.agent ∧ (s.endTransaction slot r e).profiles = s.profiles ∧
    (s.endTransaction slot r e).recipes = s.recipes ∧ (s.endTransaction slot r e).blocks = s.blocks ∧
    (s.endTransaction slot r e).threshold = s.threshold ∧ (s.endTransaction slot r e).lease = s.lease ∧
    (s.endTransaction slot r e).nextClaim = s.nextClaim ∧ (s.endTransaction slot r e).pending = s.pending := by
  simp [State.endTransaction]

@[simp] theorem State.coolTag_frame (b : Fin 4) (t : Fin 16) :
    (s.coolTag b t).resetLow = s.resetLow ∧ (s.coolTag b t).now = s.now ∧ (s.coolTag b t).ownAddress =
    s.ownAddress ∧ (s.coolTag b t).tx = s.tx ∧ (s.coolTag b t).toq = s.toq ∧ (s.coolTag b t).trunkCounters
    = s.trunkCounters ∧ (s.coolTag b t).inq = s.inq ∧ (s.coolTag b t).agent = s.agent ∧ (s.coolTag b
    t).profiles = s.profiles ∧ (s.coolTag b t).routes = s.routes ∧ (s.coolTag b t).recipes = s.recipes ∧
    (s.coolTag b t).blocks = s.blocks ∧ (s.coolTag b t).records = s.records ∧ (s.coolTag b t).notices =
    s.notices ∧ (s.coolTag b t).threshold = s.threshold ∧ (s.coolTag b t).lease = s.lease ∧ (s.coolTag b
    t).nextClaim = s.nextClaim ∧ (s.coolTag b t).lost = s.lost ∧ (s.coolTag b t).attentionPending =
    s.attentionPending ∧ (s.coolTag b t).attn = s.attn ∧ (s.coolTag b t).pending = s.pending := by
  simp [State.coolTag]

@[simp] theorem State.undo_frame (slot : Fin 32) (r : Record) :
    (s.undo slot r).resetLow = s.resetLow ∧ (s.undo slot r).now = s.now ∧ (s.undo slot r).ownAddress =
    s.ownAddress ∧ (s.undo slot r).tx = s.tx ∧ (s.undo slot r).toq = s.toq ∧ (s.undo slot r).trunkCounters
    = s.trunkCounters ∧ (s.undo slot r).inq = s.inq ∧ (s.undo slot r).agent = s.agent ∧ (s.undo slot
    r).profiles = s.profiles ∧ (s.undo slot r).routes = s.routes ∧ (s.undo slot r).recipes = s.recipes ∧
    (s.undo slot r).blocks = s.blocks ∧ (s.undo slot r).records = s.records ∧ (s.undo slot r).notices =
    s.notices ∧ (s.undo slot r).threshold = s.threshold ∧ (s.undo slot r).lease = s.lease ∧ (s.undo slot
    r).nextClaim = s.nextClaim ∧ (s.undo slot r).lost = s.lost ∧ (s.undo slot r).attentionPending =
    s.attentionPending ∧ (s.undo slot r).attn = s.attn ∧ (s.undo slot r).pending = s.pending := by
  unfold State.undo; split <;> simp

@[simp] theorem State.endSlotOf_frame (b : Fin 4) (e : Ending) (slot : Fin 32) :
    (s.endSlotOf b e slot).resetLow = s.resetLow ∧ (s.endSlotOf b e slot).now = s.now ∧ (s.endSlotOf b e
    slot).ownAddress = s.ownAddress ∧ (s.endSlotOf b e slot).inq = s.inq ∧ (s.endSlotOf b e slot).agent =
    s.agent ∧ (s.endSlotOf b e slot).profiles = s.profiles ∧ (s.endSlotOf b e slot).recipes = s.recipes ∧
    (s.endSlotOf b e slot).blocks = s.blocks ∧ (s.endSlotOf b e slot).threshold = s.threshold ∧
    (s.endSlotOf b e slot).lease = s.lease ∧ (s.endSlotOf b e slot).nextClaim = s.nextClaim ∧ (s.endSlotOf
    b e slot).pending = s.pending := by
  unfold State.endSlotOf; repeat' split
  all_goals simp

@[simp] theorem State.endBranchRecords_frame (b : Fin 4) (e : Ending) :
    (s.endBranchRecords b e).resetLow = s.resetLow ∧ (s.endBranchRecords b e).now = s.now ∧
    (s.endBranchRecords b e).ownAddress = s.ownAddress ∧ (s.endBranchRecords b e).inq = s.inq ∧
    (s.endBranchRecords b e).agent = s.agent ∧ (s.endBranchRecords b e).profiles = s.profiles ∧
    (s.endBranchRecords b e).recipes = s.recipes ∧ (s.endBranchRecords b e).blocks = s.blocks ∧
    (s.endBranchRecords b e).threshold = s.threshold ∧ (s.endBranchRecords b e).lease = s.lease ∧
    (s.endBranchRecords b e).nextClaim = s.nextClaim ∧ (s.endBranchRecords b e).pending = s.pending := by
  have k {β : Type} (f : State → β) (h : ∀ s i, f (State.endSlotOf b e s i) = f s) :
      f (s.endBranchRecords b e) = f s := State.foldl_keeps f _ h _ _
  exact ⟨k (·.resetLow) (by simp), k (·.now) (by simp), k (·.ownAddress) (by simp), k (·.inq) (by simp), k
  (·.agent) (by simp), k (·.profiles) (by simp), k (·.recipes) (by simp), k (·.blocks) (by simp), k
  (·.threshold) (by simp), k (·.lease) (by simp), k (·.nextClaim) (by simp), k (·.pending) (by simp)⟩

@[simp] theorem State.faultBranch_frame (b : Fin 4) :
    (s.faultBranch b).resetLow = s.resetLow ∧ (s.faultBranch b).now = s.now ∧ (s.faultBranch b).ownAddress
    = s.ownAddress ∧ (s.faultBranch b).inq = s.inq ∧ (s.faultBranch b).agent = s.agent ∧ (s.faultBranch
    b).profiles = s.profiles ∧ (s.faultBranch b).recipes = s.recipes ∧ (s.faultBranch b).blocks = s.blocks
    ∧ (s.faultBranch b).threshold = s.threshold ∧ (s.faultBranch b).lease = s.lease ∧ (s.faultBranch
    b).nextClaim = s.nextClaim ∧ (s.faultBranch b).pending = s.pending := by
  simp [State.faultBranch]

@[simp] theorem State.queueRecord_frame (slot : Fin 32) (r : Record) :
    (s.queueRecord slot r).resetLow = s.resetLow ∧ (s.queueRecord slot r).now = s.now ∧ (s.queueRecord
    slot r).ownAddress = s.ownAddress ∧ (s.queueRecord slot r).tx = s.tx ∧ (s.queueRecord slot r).toq =
    s.toq ∧ (s.queueRecord slot r).trunkCounters = s.trunkCounters ∧ (s.queueRecord slot r).inq = s.inq ∧
    (s.queueRecord slot r).agent = s.agent ∧ (s.queueRecord slot r).profiles = s.profiles ∧ (s.queueRecord
    slot r).routes = s.routes ∧ (s.queueRecord slot r).recipes = s.recipes ∧ (s.queueRecord slot r).blocks
    = s.blocks ∧ (s.queueRecord slot r).notices = s.notices ∧ (s.queueRecord slot r).threshold =
    s.threshold ∧ (s.queueRecord slot r).lease = s.lease ∧ (s.queueRecord slot r).nextClaim = s.nextClaim
    ∧ (s.queueRecord slot r).lost = s.lost ∧ (s.queueRecord slot r).attentionPending = s.attentionPending
    ∧ (s.queueRecord slot r).attn = s.attn ∧ (s.queueRecord slot r).pending = s.pending := by
  simp [State.queueRecord]

@[simp] theorem State.takeUp_frame (slot : Fin 32) (r : Record) (step : Step) :
    (s.takeUp slot r step).resetLow = s.resetLow ∧ (s.takeUp slot r step).now = s.now ∧ (s.takeUp slot r
    step).ownAddress = s.ownAddress ∧ (s.takeUp slot r step).tx = s.tx ∧ (s.takeUp slot r step).toq =
    s.toq ∧ (s.takeUp slot r step).trunkCounters = s.trunkCounters ∧ (s.takeUp slot r step).inq = s.inq ∧
    (s.takeUp slot r step).agent = s.agent ∧ (s.takeUp slot r step).profiles = s.profiles ∧ (s.takeUp slot
    r step).routes = s.routes ∧ (s.takeUp slot r step).recipes = s.recipes ∧ (s.takeUp slot r step).blocks
    = s.blocks ∧ (s.takeUp slot r step).notices = s.notices ∧ (s.takeUp slot r step).threshold =
    s.threshold ∧ (s.takeUp slot r step).lease = s.lease ∧ (s.takeUp slot r step).nextClaim = s.nextClaim
    ∧ (s.takeUp slot r step).lost = s.lost ∧ (s.takeUp slot r step).attentionPending = s.attentionPending
    ∧ (s.takeUp slot r step).attn = s.attn ∧ (s.takeUp slot r step).pending = s.pending := by
  cases step <;> simp [State.takeUp]

@[simp] theorem State.advance_frame (slot : Fin 32) (r : Record) :
    (s.advance slot r).resetLow = s.resetLow ∧ (s.advance slot r).now = s.now ∧ (s.advance slot
    r).ownAddress = s.ownAddress ∧ (s.advance slot r).inq = s.inq ∧ (s.advance slot r).agent = s.agent ∧
    (s.advance slot r).profiles = s.profiles ∧ (s.advance slot r).recipes = s.recipes ∧ (s.advance slot
    r).blocks = s.blocks ∧ (s.advance slot r).threshold = s.threshold ∧ (s.advance slot r).lease = s.lease
    ∧ (s.advance slot r).nextClaim = s.nextClaim ∧ (s.advance slot r).pending = s.pending := by
  unfold State.advance; split <;> simp

@[simp] theorem State.takeAnswer_frame (slot : Fin 32) (r : Record) (status : Byte) (payload : List Byte) :
    (s.takeAnswer slot r status payload).resetLow = s.resetLow ∧ (s.takeAnswer slot r status payload).now
    = s.now ∧ (s.takeAnswer slot r status payload).ownAddress = s.ownAddress ∧ (s.takeAnswer slot r status
    payload).inq = s.inq ∧ (s.takeAnswer slot r status payload).agent = s.agent ∧ (s.takeAnswer slot r
    status payload).profiles = s.profiles ∧ (s.takeAnswer slot r status payload).recipes = s.recipes ∧
    (s.takeAnswer slot r status payload).blocks = s.blocks ∧ (s.takeAnswer slot r status
    payload).threshold = s.threshold ∧ (s.takeAnswer slot r status payload).lease = s.lease ∧
    (s.takeAnswer slot r status payload).nextClaim = s.nextClaim ∧ (s.takeAnswer slot r status
    payload).pending = s.pending := by
  simp only [State.takeAnswer]; split <;> simp

@[simp] theorem State.agentNext_frame :
    (s.agentNext).resetLow = s.resetLow ∧ (s.agentNext).now = s.now ∧ (s.agentNext).ownAddress =
    s.ownAddress ∧ (s.agentNext).tx = s.tx ∧ (s.agentNext).toq = s.toq ∧ (s.agentNext).trunkCounters =
    s.trunkCounters ∧ (s.agentNext).profiles = s.profiles ∧ (s.agentNext).routes = s.routes ∧
    (s.agentNext).recipes = s.recipes ∧ (s.agentNext).blocks = s.blocks ∧ (s.agentNext).records =
    s.records ∧ (s.agentNext).branches = s.branches ∧ (s.agentNext).notices = s.notices ∧
    (s.agentNext).threshold = s.threshold ∧ (s.agentNext).lease = s.lease ∧ (s.agentNext).nextClaim =
    s.nextClaim ∧ (s.agentNext).lost = s.lost ∧ (s.agentNext).attentionPending = s.attentionPending ∧
    (s.agentNext).attn = s.attn ∧ (s.agentNext).pending = s.pending := by
  unfold State.agentNext; repeat' split
  all_goals simp

@[simp] theorem State.answer_frame (result : Result) (payload : List Byte) :
    (s.answer result payload).resetLow = s.resetLow ∧ (s.answer result payload).now = s.now ∧ (s.answer
    result payload).ownAddress = s.ownAddress ∧ (s.answer result payload).trunkCounters = s.trunkCounters
    ∧ (s.answer result payload).profiles = s.profiles ∧ (s.answer result payload).routes = s.routes ∧
    (s.answer result payload).recipes = s.recipes ∧ (s.answer result payload).blocks = s.blocks ∧
    (s.answer result payload).records = s.records ∧ (s.answer result payload).branches = s.branches ∧
    (s.answer result payload).notices = s.notices ∧ (s.answer result payload).threshold = s.threshold ∧
    (s.answer result payload).lease = s.lease ∧ (s.answer result payload).nextClaim = s.nextClaim ∧
    (s.answer result payload).lost = s.lost ∧ (s.answer result payload).attentionPending =
    s.attentionPending ∧ (s.answer result payload).attn = s.attn ∧ (s.answer result payload).pending =
    s.pending := by
  unfold State.answer; split <;> simp

end Sys2Proof.Machine
end

