-- ==== Sys2Proof/Laws/Operands.lean ====
section
/-! SUPPORT. The small laws of the codes and layouts: indices in and out of bytes, numbers as bytes, codes read back
from the bytes they are written as. -/

namespace Sys2Proof.Machine

/-! ### Indices -/

theorem index?_eq_some {n : Nat} {b : Byte} {i : Fin n} : index? n b = some i ↔ b.toNat = i.val := by
  unfold index?
  split
  · simp [Fin.ext_iff]
  next h => exact ⟨fun h' => by simp at h', fun h' => absurd i.isLt (by omega)⟩

theorem index?_eq_none {n : Nat} {b : Byte} : index? n b = none ↔ n ≤ b.toNat := by
  unfold index?
  split <;> simp_all

theorem indexByte_toNat {n : Nat} (h : n ≤ 256) (i : Fin n) : (indexByte i).toNat = i.val := by
  have := i.isLt
  simp only [indexByte, BitVec.toNat_ofNat]
  omega

theorem index?_indexByte {n : Nat} (h : n ≤ 256) (i : Fin n) : index? n (indexByte i) = some i :=
  index?_eq_some.2 (indexByte_toNat h i)

theorem indexByte_of_toNat {n : Nat} {b : Byte} {i : Fin n} (h : b.toNat = i.val) : indexByte i = b := by
  simp only [indexByte, ← h, BitVec.ofNat_toNat, BitVec.setWidth_eq]

/-! ### Numbers as bytes -/

theorem toBytes_length (n x : Nat) : (toBytes n x).length = n := by
  induction n generalizing x with
  | zero => rfl
  | succ n ih => simp [toBytes, ih]

theorem toBytes_two (x : BitVec 16) : toBytes 2 x.toNat = [x.extractLsb' 8 8, x.extractLsb' 0 8] := by
  simp only [toBytes, List.cons.injEq, and_true]
  constructor <;> apply BitVec.eq_of_toNat_eq <;> simp [BitVec.extractLsb'_toNat, Nat.shiftRight_eq_div_pow]

theorem toBytes_four (x : BitVec 32) :
    toBytes 4 x.toNat = [x.extractLsb' 24 8, x.extractLsb' 16 8, x.extractLsb' 8 8, x.extractLsb' 0 8] := by
  simp only [toBytes, List.cons.injEq, and_true]
  refine ⟨?_, ?_, ?_, ?_⟩ <;> apply BitVec.eq_of_toNat_eq <;>
    simp [BitVec.extractLsb'_toNat, Nat.shiftRight_eq_div_pow]

/-- The bits of a 16-bit field written as two bytes. -/
theorem getLsbD_pair (a b : Byte) (i : Nat) :
    (a ++ b : BitVec 16).getLsbD i = if i < 8 then b.getLsbD i else a.getLsbD (i - 8) :=
  BitVec.getLsbD_append

theorem toNat_pair (a b : Byte) : (a ++ b : BitVec 16).toNat = a.toNat * 256 + b.toNat := by
  have h : (a ++ b : BitVec 16).toNat = a.toNat <<< 8 ||| b.toNat := BitVec.toNat_append a b
  rw [h, ← Nat.shiftLeft_add_eq_or_of_lt b.isLt, Nat.shiftLeft_eq]

theorem extractLsb'_append_high (a b : Byte) : (a ++ b : BitVec 16).extractLsb' 8 8 = a := by
  apply BitVec.eq_of_toNat_eq
  have := b.isLt
  have := a.isLt
  rw [BitVec.extractLsb'_toNat, toNat_pair, Nat.shiftRight_eq_div_pow]
  omega

theorem extractLsb'_append_low (a b : Byte) : (a ++ b : BitVec 16).extractLsb' 0 8 = b := by
  apply BitVec.eq_of_toNat_eq
  have := b.isLt
  rw [BitVec.extractLsb'_toNat, toNat_pair, Nat.shiftRight_zero]
  omega

theorem append_extractLsb' (x : BitVec 16) : x.extractLsb' 8 8 ++ x.extractLsb' 0 8 = x := by
  apply BitVec.eq_of_toNat_eq
  have := x.isLt
  rw [toNat_pair, BitVec.extractLsb'_toNat, BitVec.extractLsb'_toNat, Nat.shiftRight_eq_div_pow,
    Nat.shiftRight_zero]
  omega

/-- Two bytes, most significant first, read back as the number written. -/
theorem ofBytes_two (x : BitVec 16) :
    BitVec.ofNat 16 (ofBytes [x.extractLsb' 8 8, x.extractLsb' 0 8]) = x := by
  apply BitVec.eq_of_toNat_eq
  simp [ofBytes, BitVec.extractLsb'_toNat, Nat.shiftRight_eq_div_pow]
  omega

theorem toNat_quad (a b c d : Byte) :
    (a ++ b ++ c ++ d : BitVec 32).toNat = ((a.toNat * 256 + b.toNat) * 256 + c.toNat) * 256 + d.toNat := by
  have h3 : (a ++ b ++ c ++ d : BitVec 32).toNat = (a ++ b ++ c : BitVec 24).toNat <<< 8 ||| d.toNat :=
    BitVec.toNat_append (a ++ b ++ c : BitVec 24) d
  have h2 : (a ++ b ++ c : BitVec 24).toNat = (a ++ b : BitVec 16).toNat <<< 8 ||| c.toNat :=
    BitVec.toNat_append (a ++ b : BitVec 16) c
  rw [h3, ← Nat.shiftLeft_add_eq_or_of_lt d.isLt, h2, ← Nat.shiftLeft_add_eq_or_of_lt c.isLt, toNat_pair]
  simp only [Nat.shiftLeft_eq]

/-- Four bytes, most significant first, read as the number they spell. -/
theorem ofBytes_four (a b c d : Byte) :
    BitVec.ofNat 32 (ofBytes [a, b, c, d]) = (a ++ b ++ c ++ d : BitVec 32) := by
  apply BitVec.eq_of_toNat_eq
  rw [toNat_quad]
  have := a.isLt
  have := b.isLt
  have := c.isLt
  have := d.isLt
  simp only [ofBytes, List.foldl_cons, List.foldl_nil, BitVec.toNat_ofNat]
  omega

/-! ### Codes -/

theorem Op.ofCode_code (op : Op) : Op.ofCode op.code = some op := by
  cases op <;> decide

theorem Op.ofCode_eq_some {c : Byte} {op : Op} : Op.ofCode c = some op ↔ c = op.code := by
  constructor
  · unfold Op.ofCode
    repeat' split
    all_goals simp only [Option.some.injEq, reduceCtorEq, false_implies]
    all_goals rintro rfl
    all_goals assumption
  · rintro rfl
    exact op.ofCode_code

theorem Op.ofCode_eq_none {c : Byte} : Op.ofCode c = none ↔ c = 0 ∨ 3 < c.toNat := by
  unfold Op.ofCode
  repeat' split
  all_goals simp_all
  all_goals bv_omega

theorem slotChoice?_slotChoiceByte (k : Option (Fin 32)) : slotChoice? (slotChoiceByte k) = some k := by
  cases k with
  | none => rfl
  | some k => revert k; decide

theorem extent?_byte (e : Extent) : extent? e.byte = some e := by
  cases e with
  | all => rfl
  | bytes n => revert n; decide

/-! ### Step and route records -/

theorem Step.bytes_length (step : Step) : step.bytes.length = 10 := by
  cases step <;> simp [Step.bytes, toBytes]

theorem RouteEntry.bytes_length (e : RouteEntry) : e.bytes.length = 17 := by
  unfold RouteEntry.bytes
  split <;> simp [toBytes]

theorem stepRecords_flatten (records : List (List Byte)) (rest : List Byte) (h : ∀ r ∈ records, r.length = 10) :
    stepRecords records.length (records.flatten ++ rest) = records := by
  induction records with
  | nil => rfl
  | cons r records ih =>
    have hr : r.length = 10 := h r (by simp)
    simp only [List.length_cons, stepRecords, List.flatten_cons, List.append_assoc]
    rw [List.take_append_of_le_length (by omega), List.take_of_length_le (by omega),
      List.drop_append_of_le_length (by omega), List.drop_of_length_le (by omega), List.nil_append,
      ih fun r' h' => h r' (by simp [h'])]

/-! ### Frames read back from their content -/

theorem byte_halves (b : Byte) : b.extractLsb' 4 4 ++ b.extractLsb' 0 4 = b := by
  revert b; decide +kernel

theorem halves_byte (kind flags : BitVec 4) :
    (kind ++ flags).extractLsb' 4 4 = kind ∧ (kind ++ flags).extractLsb' 0 4 = flags := by
  revert kind flags; decide +kernel

theorem trunkBody_eq (kind flags : BitVec 4) (address : Address) (tag code : Byte) (payload : List Byte) :
    trunkBody kind flags address tag code payload =
      (kind ++ flags) :: address.extractLsb' 8 8 :: address.extractLsb' 0 8 :: tag :: code ::
        BitVec.ofNat 8 payload.length :: payload := by
  simp [trunkBody, toBytes_two]

theorem ofBytes_pair (a b : Byte) : BitVec.ofNat 16 (ofBytes [a, b]) = a ++ b := by
  apply BitVec.eq_of_toNat_eq
  rw [toNat_pair]
  simp [ofBytes]
  omega

/-- The content of a good trunk frame, and no other, is read as its fields. -/
theorem readTrunk_eq_some {content : List Byte} {f : TrunkFrame} :
    readTrunk content = some f ↔
      let body := trunkBody f.kind f.flags f.address f.tag f.code f.payload
      f.payload.length ≤ 96 ∧ f.check = trunkCheck body ∧
      content = body ++ [f.check.extractLsb' 8 8, f.check.extractLsb' 0 8] := by
  constructor
  · intro h
    unfold readTrunk at h
    split at h
    next first a1 a0 tag code length rest =>
      split at h
      next fits =>
        simp only at h
        split at h
        next passes =>
          obtain ⟨x, y, tail⟩ : ∃ x y, rest.drop length.toNat = [x, y] := by
            have two : (rest.drop length.toNat).length = 2 := by simp; omega
            match e : rest.drop length.toNat, two with
            | [x, y], _ => exact ⟨x, y, rfl⟩
          have whole : rest.take length.toNat ++ [x, y] = rest := by
            rw [← tail]; exact List.take_append_drop _ _
          have taken : (rest.take length.toNat).length = length.toNat := by simp; omega
          rw [tail, ofBytes_pair] at h passes
          cases h
          have body : trunkBody (first.extractLsb' 4 4) (first.extractLsb' 0 4) (a1 ++ a0) tag code
              (rest.take length.toNat) =
              first :: a1 :: a0 :: tag :: code :: length :: rest.take length.toNat := by
            simp only [trunkBody_eq, byte_halves, extractLsb'_append_high, extractLsb'_append_low, taken]
            simp
          refine ⟨by simp only [taken]; exact fits.1, ?_, ?_⟩
          · simp only; rw [body, passes]
          · simp only [body, extractLsb'_append_high, extractLsb'_append_low, List.cons_append, whole]
        · cases h
      · cases h
    · cases h
  · rintro ⟨short, check, rfl⟩
    obtain ⟨kind, flags, address, tag, code, payload, _⟩ := f
    simp only at short check
    subst check
    have length : (BitVec.ofNat 8 payload.length).toNat = payload.length := by simp; omega
    simp only [trunkBody_eq, List.cons_append, readTrunk, length]
    rw [if_pos ⟨short, by simp⟩]
    simp [ofBytes_pair, append_extractLsb', halves_byte]

theorem CheckProfile.checkBytes_length (p : CheckProfile) (bytes : List Byte) :
    (p.checkBytes bytes).length = p.width.bytes := toBytes_length _ _

/-- The content of a good branch frame, and no other, is read as its fields. -/
theorem readBranch_eq_some {port : BranchPort} {profiles : Table CheckProfile 4} {content : List Byte}
    {f : BranchFrame} :
    readBranch port profiles content = some f ↔
      let body := branchBody f.kind f.localAddress f.tag f.opOrStatus f.payload
      f.payload.length ≤ 64 ∧ content = body ++ (look profiles (port.profileFor f.kind f.tag)).checkBytes body := by
  constructor
  · intro h
    unfold readBranch at h
    split at h
    next kind localAddress tag opOrStatus length rest =>
      simp only at h
      split at h
      next fits =>
        split at h
        next passes =>
          have taken : (rest.take length.toNat).length = length.toNat := by simp; omega
          cases h
          refine ⟨by simp only [taken]; exact fits.1, ?_⟩
          have body : branchBody kind localAddress tag opOrStatus (rest.take length.toNat) =
              kind :: localAddress :: tag :: opOrStatus :: length :: rest.take length.toNat := by
            simp only [branchBody, taken]
            simp
          simp only [body, passes, List.cons_append, List.take_append_drop]
        · cases h
      · cases h
    · cases h
  · rintro ⟨short, rfl⟩
    obtain ⟨kind, localAddress, tag, opOrStatus, payload⟩ := f
    simp only at short
    have length : (BitVec.ofNat 8 payload.length).toNat = payload.length := by simp; omega
    simp only [branchBody, List.cons_append, List.nil_append, readBranch, length]
    rw [if_pos ⟨short, by simp [CheckProfile.checkBytes_length]⟩]
    simp

end Sys2Proof.Machine
end

