-- ==== Sys2Proof/Laws/Ops.lean ====
section
/-! SUPPORT. What each shared operation does, said once: the cases of its outcome, for later proofs to cite in place
of unfolding it. -/

namespace Sys2Proof.Machine

variable (s : State)

/-! ### The frame of every command -/

theorem State.running_of_high {s : State} (h : s.resetLow = false) (act : State → State) :
    s.running act = act s := by
  simp [State.running, h]

theorem State.running_of_low {s : State} (h : s.resetLow = true) (act : State → State) : s.running act = s := by
  simp [State.running, h]

/-- A management command carries out the request in execution that has its code and a fitting length. -/
theorem State.carryOut_of_executes {s : State} {code : Byte} {payload : List Byte}
    (h : s.Executes code payload) (fits : lengthAccepted code payload = true)
    (act : List Byte → State → State) : s.carryOut code act = act payload s := by
  obtain ⟨low, tag, run⟩ := h
  simp [State.carryOut, low, run, fits]

/-- Everything a management command can do: nothing, a BAD_REQUEST answer, or the request's own action. -/
theorem State.carryOut_cases (code : Byte) (act : List Byte → State → State) :
    s.carryOut code act = s ∨
    (∃ q, s.agent = .executing q ∧ q.code = code ∧ s.resetLow = false ∧
      ((lengthAccepted code q.payload = false ∧ s.carryOut code act = s.answer .badRequest []) ∨
       (lengthAccepted code q.payload = true ∧ s.carryOut code act = act q.payload s))) := by
  unfold State.carryOut
  split
  · exact .inl rfl
  next low =>
    split
    next q run =>
      split
      next same =>
        refine .inr ⟨q, run, same, by simpa using low, ?_⟩
        cases h : lengthAccepted code q.payload <;> simp
      · exact .inl rfl
    · exact .inl rfl
    · exact .inl rfl

/-! ### The Trunk Output Queue -/

theorem framesIn_append (place : Place) (toq : List OutFrame) (f : OutFrame) :
    framesIn place (toq ++ [f]) = framesIn place toq + if f.place = place then 1 else 0 := by
  simp [framesIn, List.countP_append, List.countP_cons]

theorem State.poolFree_iff : s.poolFree = true ↔ s.poolTaken < 8 := by
  unfold State.poolFree; exact decide_eq_true_iff

theorem State.joinOrDrop_cases (f : TrunkFrame) :
    (s.poolTaken < 8 ∧ s.joinOrDrop f = s.join .pool f) ∨
    (8 ≤ s.poolTaken ∧ s.joinOrDrop f = s.bumpTrunk .unsent) := by
  unfold State.joinOrDrop
  split
  next h => exact .inl ⟨(s.poolFree_iff).1 h, rfl⟩
  next h => exact .inr ⟨by simpa [State.poolFree_iff] using h, rfl⟩

/-! ### The Notice Queue -/

theorem State.requestAttention_cases :
    (s.attentionPending = true ∧ s.requestAttention = s) ∨
    (s.attentionPending = false ∧ s.poolTaken < 8 ∧ s.requestAttention = s.join .pool s.attentionFrame) ∨
    (s.attentionPending = false ∧ 8 ≤ s.poolTaken ∧ s.requestAttention = { s with attentionPending := true }) := by
  unfold State.requestAttention
  split
  next h => exact .inl ⟨h, rfl⟩
  next h =>
    split
    next free => exact .inr (.inl ⟨by simpa using h, (s.poolFree_iff).1 free, rfl⟩)
    next full => exact .inr (.inr ⟨by simpa using h, by simpa [State.poolFree_iff] using full, rfl⟩)

/-- The condition after ATTN# has been judged is the condition before. -/
@[simp] theorem State.judgeAttention_attentionCondition :
    s.judgeAttention.attentionCondition = s.attentionCondition := by
  simp [State.attentionCondition]

/-- ATTN# follows the condition. -/
@[simp] theorem State.judgeAttention_attn : s.judgeAttention.attn = s.attentionCondition := by
  unfold State.judgeAttention
  split
  next h =>
    split
    next up => simp [h, up]
    next => rcases State.requestAttention_cases { s with attn := true } with h' | h' | h' <;> simp [h', h]
  next h => simpa using h

/-! ### The Management Agent -/

theorem State.agentNext_cases :
    (s.inq = [] ∧ s.agentNext = { s with agent := .idle }) ∨
    (∃ q rest, s.inq = q :: rest ∧ framesIn .pool s.toq < 8 ∧
      s.agentNext = { s with inq := rest, agent := .executing q }) ∨
    (∃ q rest, s.inq = q :: rest ∧ 8 ≤ framesIn .pool s.toq ∧ s.agentNext = { s with agent := .waiting }) := by
  unfold State.agentNext
  split
  next h => exact .inl ⟨h, rfl⟩
  next q rest h =>
    split
    next free =>
      exact .inr (.inl ⟨q, rest, h, by simpa [State.poolFree_iff, State.poolTaken, Agent.reservation] using free, rfl⟩)
    next full =>
      exact .inr (.inr ⟨q, rest, h, by simpa [State.poolFree_iff, State.poolTaken, Agent.reservation] using full, rfl⟩)

theorem State.answer_of_executing {s : State} {q : ManageRequest} (h : s.agent = .executing q) (result : Result)
    (payload : List Byte) :
    s.answer result payload =
      State.agentNext ({ s with agent := .idle }.join .pool
        (buildTrunk kindManageReply s.ownAddress q.tag result.code payload)) := by
  simp [State.answer, h]

/-! ### Choices by lowest index -/

theorem lowest_eq_some {n : Nat} {p : Fin n → Bool} {i : Fin n} (h : p i = true)
    (least : ∀ j, j < i → p j = false) : lowest p = some i := by
  unfold lowest
  rw [List.find?_eq_some_iff_getElem]
  refine ⟨h, i.val, by simp, by simp, ?_⟩
  intro j hj
  simp
  exact least ⟨j, by omega⟩ hj

theorem lowest_eq_none {n : Nat} {p : Fin n → Bool} (h : ∀ i, p i = false) : lowest p = none := by
  unfold lowest
  rw [List.find?_eq_none]
  intro i _
  simp [h i]

/-- The place that a search of a list finds is the least one that the test accepts. -/
theorem findIdx?_of_least {α : Type} {p : α → Bool} {l : List α} {i : Nat} {a : α} (at_i : l[i]? = some a)
    (h : p a = true) (least : ∀ j b, l[j]? = some b → p b = true → i ≤ j) : l.findIdx? p = some i := by
  rw [List.findIdx?_eq_some_iff_getElem]
  obtain ⟨lt, rfl⟩ := List.getElem?_eq_some_iff.1 at_i
  refine ⟨lt, h, ?_⟩
  intro j hj accepts
  have := least j l[j] (by simp) accepts
  omega

/-- The one ISSUED record of a branch tag is its holder. -/
theorem State.holderOf_of_only {s : State} {b : Fin 4} {n : Fin 16} {slot : Fin 32} {r : Record}
    {d : Option Time} (held : s.record slot = some r) (on : r.snapshot.branch = b) (issued : r.state = .issued n d)
    (only : ∀ i q e, s.record i = some q → q.snapshot.branch = b → q.state = .issued n e → i = slot) :
    s.holderOf b n = some slot := by
  apply lowest_eq_some
  · simp [State.recordIs, held, on, Record.holdsTag, issued]
  · intro j hj
    unfold State.recordIs
    split
    next q hq =>
      by_contra holds
      simp [Record.holdsTag] at holds
      obtain ⟨qb, qt⟩ := holds
      split at qt
      next t e hq' =>
        simp at qt
        subst qt
        have := only j q e hq qb hq'
        omega
      all_goals simp at qt
    · rfl

/-! ### Operations as one update -/

theorem State.join_eq (place : Place) (f : TrunkFrame) :
    s.join place f =
      { s with toq := s.toq ++ [⟨f, place⟩], tx := if s.tx = .idle then .sending else s.tx } := by
  cases h : s.tx <;> simp [State.join, h]

theorem satInc_eq {w : Nat} (x : BitVec w) :
    satInc x = if x = BitVec.allOnes w then BitVec.allOnes w else x + 1 := by
  unfold satInc
  split <;> simp_all

theorem satAdd_byte_eq (x y : BitVec 8) :
    satAdd x y = if 255 ≤ x.toNat + y.toNat then 255 else x + y := by
  unfold satAdd
  split <;> split
  · rfl
  · omega
  · bv_omega
  · rfl

theorem severity_max_eq (x y : Fin 8) : max x y = if x < y then y else x := by revert x y; decide

theorem counterBytes_eq {n : Nat} (c : Table (BitVec 32) n) :
    counterBytes c = (List.finRange n).flatMap fun i => bytesOf (look c i) := by
  have list : c.toList = (List.finRange n).map (look c) := by apply List.ext_getElem <;> simp [look]
  unfold counterBytes
  rw [list, List.flatMap_map]
  congr 1
  funext i
  simp only [toBytes_four, bytesOf]

theorem BranchPort.coolTag_eq_cooled (p : BranchPort) (now : Time) (n : Fin 16) :
    p.coolTag now n = p.setTag n (p.cooled now (p.tag n)) := by
  unfold BranchPort.coolTag
  cases h : p.tag n <;> simp [BranchPort.cooled, Config.unitsPerMs, BranchPort.setTag] <;>
    (rw [← h]; simp [BranchPort.tag])

theorem State.queueRecord_eq (slot : Fin 32) (r : Record) :
    s.queueRecord slot r =
      (s.setRecord slot (some { r with state := .queued })).setBranch r.snapshot.branch
        (if r.urgent then
          { s.branch r.snapshot.branch with urgentQueue := (s.branch r.snapshot.branch).urgentQueue ++ [slot] }
         else
          { s.branch r.snapshot.branch with
            normalQueue := (s.branch r.snapshot.branch).normalQueue ++ [slot] }) := rfl

end Sys2Proof.Machine
end

