-- ==== Sys2Proof/WellFormed.lean ====
section
/-! DEFINITION. Which commands stand for a frame that can arrive good: payloads within the Length that a
good frame of the link may carry (R2, R9). Raw content bytes are never ill-formed: the receiver judges
them. -/

namespace Sys2Proof

/-- The largest payload of a good trunk frame (R2). -/
def maxTrunkPayload : Nat := 96

/-- The largest payload of a good branch frame (R9). -/
def maxBranchPayload : Nat := 64

/-- A command whose operands a good frame can carry. -/
def Instr.wellFormed : Instr → Bool
  | .request _ _ _ _ payload => payload.length ≤ maxTrunkPayload
  | .manage _ _ _ payload => payload.length ≤ maxTrunkPayload
  | .branchResponse _ _ _ _ payload => payload.length ≤ maxBranchPayload
  | .alert _ _ payload => payload.length ≤ maxBranchPayload
  | .hardReset | .trunkFrame _ | .hold _ | .release _ | .trunkTransmissionEnd
  | .pendingRequestResolved | .takeRequest | .unknownManagementCode | .statusRead | .counterRead
  | .setOwnAddress | .softResetTraffic | .softResetFull | .routeWrite | .routeRead | .routeDelete
  | .routeReinstate | .profileWrite | .profileRead | .recipeWrite | .recipeRead | .recipeClear
  | .constWrite | .constRead | .branchConfig | .branchEnable | .branchDrain | .branchDisable
  | .transactionAbort | .pendingRead | .noticeClaim | .noticeRetire | .noticeSettings
  | .branchFrame _ _ | .schedulerIssue _ | .branchTransmissionEnd _ | .exchangeTimerExpiry _ _
  | .spacingExpiry _ | .pauseExpiry _ | .coolDeadlineExpiry _ _ | .drainDeadlineExpiry _
  | .leaseExpiry _ | .hardResetEnd _ | .softResetBadValue => true

end Sys2Proof
end

