-- ==== Sys2Proof/Tests/Slice0.lean ====
section
/-! SUPPORT. Tests. Expected values come from the spec's worked examples and tables and from the catalogue values of
the check algorithms that the default profiles are; each test names its source. The witnesses show, for every
statement with hypotheses, a state and operands that meet them. -/

namespace Sys2Proof.Tests

set_option Elab.async false

open Sys2Proof.Machine

/-! ### WellFormed: each check refuses an ill-formed command -/

/-- A payload one byte past the largest of a good frame (sections 1.2, 1.6). -/
theorem test_ill_formed_commands_are_refused :
    (Instr.request 0 0 0 1 (List.replicate 97 0)).wellFormed = false ∧
    (Instr.manage 0 0 1 (List.replicate 97 0)).wellFormed = false ∧
    (Instr.branchResponse 0 1 0 0 (List.replicate 65 0)).wellFormed = false ∧
    (Instr.alert 0 1 (List.replicate 65 0)).wellFormed = false ∧
    (Instr.request 0 0 0 1 (List.replicate 96 0)).wellFormed = true ∧
    (Instr.alert 0 1 (List.replicate 64 0)).wellFormed = true ∧
    (Instr.trunkFrame (List.replicate 300 0)).wellFormed = true := by decide

/-! ### The check computation -/

/-- The characters "123456789", over which catalogues state check values. -/
def digits : List Byte := [0x31, 0x32, 0x33, 0x34, 0x35, 0x36, 0x37, 0x38, 0x39]

/-- The default profiles are CRC-16/CCITT-FALSE, CRC-8, CRC-32C and CRC-24/OPENPGP: their catalogue check values. -/
theorem test_check_values_of_the_default_profiles :
    trunkCheck digits = 0x29B1 ∧ (look defaultProfiles 0).checkBytes digits = [0x29, 0xB1] ∧
    (look defaultProfiles 1).checkBytes digits = [0xF4] ∧
    (look defaultProfiles 2).checkBytes digits = [0xE3, 0x06, 0x92, 0x83] ∧
    (look defaultProfiles 3).checkBytes digits = [0x21, 0xCF, 0x02] := by decide +kernel

/-- The two tables of section 2.3.1. -/
theorem test_reflection_tables :
    ([0x01, 0x1D, 0xF0, 0x5A] : List Byte).map reflect = [0x80, 0xB8, 0x0F, 0x5A] ∧
    reflect (0x1234 : BitVec 16) = 0x2C48 ∧ reflect (0x000001 : BitVec 24) = 0x800000 ∧
    reflect (0x00000001 : BitVec 32) = 0x80000000 ∧ reflect (0xC0 : BitVec 8) = 0x03 := by decide +kernel

/-! ### Codes -/

/-- The tables of sections 1.3.1, 1.3.2, 1.4 and 7.2 and the rows of section 10.3. -/
theorem test_code_tables :
    [Op.read, .write, .exchange].map Op.code = [1, 2, 3] ∧
    [RefusalStatus.noRoute, .unreachable, .branchDown, .branchDraining, .tagInUse, .busy, .denied, .malformed,
      .noRecipe].map RefusalStatus.code = [1, 2, 3, 4, 5, 6, 7, 8, 9] ∧
    [Ending.ok, .branchDown, .timeout, .nodeError 9, .awaitExhausted, .shortData, .branchFault, .aborted,
      .stepOversize].map Ending.code = [0, 3, 16, 17, 18, 19, 20, 21, 22] ∧
    [Result.done, .accepted, .badRequest, .badValue, .inUse, .notFound, .staleClaim, .empty, .busy, .badState,
      .conflict].map Result.code = [0, 1, 2, 3, 4, 5, 7, 8, 9, 10, 11] ∧
    [BranchState.disabled, .enabled, .draining 0, .faulted].map BranchState.code = [0, 1, 2, 3] ∧
    lengthAccepted 0x05 [] = false ∧ lengthAccepted 0x30 [0, 0] = true ∧ lengthAccepted 0x33 [] = false ∧
    lengthAccepted 0x20 (List.replicate 15 0) = true := by decide

/-! ### A part to test: the worked example of section 4.11 -/

/-- Route 20 of section 4.11.1; the numbers the section leaves open are the test's. -/
def unlockRoute : RouteConfig :=
  { globalAddress := 0x0510, branch := 0, localAddress := 8, permitRead := false, permitWrite := true
    permitExchange := false, recipeRead := none, recipeWrite := some 12, recipeExchange := some 31, profile := 1
    timeout := 100, retryLimit := 1, quarantineLimit := 1, alertSeverity := 5 }

/-- Recipe 12 of section 4.11.1. -/
def unlockSteps : List Step :=
  [.issue .write (some 3) 0 (.bytes 2) (.bytes 0), .issue .write (some 4) 0 .all (.bytes 1),
   .await .read (some 5) 0 0x01 0x00 20 50]

/-- The part of section 4.11.1, its branch 0 enabled; the route's generation is 255. -/
def part : State :=
  { State.reset with
    routes := put State.reset.routes 20 ⟨255, some ⟨unlockRoute, false, 0⟩⟩
    recipes := put State.reset.recipes 12 (some (loadedRecipe unlockSteps))
    blocks := put (put (put State.reset.blocks 3 [0x7E, 0x01]) 4 [0x20]) 5 [0x05]
    branches := put State.reset.branches 0
      { resetPort with state := .enabled, settings := { defaultSettings with defaultProfile := 1 } } }

/-- The request payload of section 4.11.2. -/
def unlockPayload : List Byte := [0x00, 0x40, 0x11, 0x22, 0x33, 0x44]

/-- The record of section 4.11.2 in a state, at a step. -/
def unlockRecord (state : RecordState) (step : Nat) : Record :=
  { state, trunkTag := 7, globalAddress := 0x0510, urgent := false, op := .write
    snapshot := ⟨20, 255, 0, 8, 1, 100, 1, some 12⟩, payload := unlockPayload, step, attempts := 0, retries := 0
    accumulator := if step = 2 then [0x04] else [] }

/-- The part with one record, in slot 0. -/
def withRecord (r : Record) : State := part.setRecord 0 (some r)

/-- The part with the record queued at a step. -/
def queuedAt (step : Nat) : State :=
  (withRecord (unlockRecord .queued step)).setBranch 0 { part.branch 0 with normalQueue := [0] }

/-- The part with the record issued on tag 0 at a step, its timer running to 100. -/
def issuedAt (step : Nat) : State :=
  (withRecord (unlockRecord (.issued 0 (some 100)) step)).setTag 0 0 (.inUse 1 8)

/-- A state with a management request in execution. -/
def asking (s : State) (code : Byte) (payload : List Byte) : State :=
  { s with agent := .executing ⟨9, code, payload⟩ }

/-- The state after a command. -/
def after (c : Instr) (s : State) : State :=
  match exec c s with
  | .next t => t
  | .fault _ => s
  | .refused _ => s

/-- The code and payload of every frame in the Trunk Output Queue. -/
def out (s : State) : List (Byte × List Byte) := s.toq.map fun f => (f.frame.code, f.frame.payload)

/-- The reply to a management request in a state. -/
def reply (s : State) (c : Instr) (code : Byte) (payload : List Byte) : List (Byte × List Byte) :=
  out (after c (asking s code payload))

/-- The fields of a record that move. -/
structure View where
  state       : RecordState
  step        : Nat
  attempts    : Nat
  retries     : Nat
  accumulator : List Byte
deriving DecidableEq

/-- The record in slot 0 by the fields that move. -/
def view (s : State) : Option View := (s.record 0).map fun r => ⟨r.state, r.step, r.attempts, r.retries, r.accumulator⟩

/-! ### Frames: sections 1.8 and 2.3.1 -/

/-- Content lengths 12, 12 and 10 of section 1.8.1 and 9 of section 2.3.1; the first content byte holds the kind in
its upper four bits; the check of a READ of local address 17 is CRC-32C over its five header bytes. -/
theorem test_worked_frames :
    (buildTrunk kindRequest 0x0312 5 2 [1, 2, 3, 4]).content.length = 12 ∧
    (buildRequest (look defaultProfiles 3) 17 0 .write [1, 2, 3, 4]).content.length = 12 ∧
    (buildTrunk kindResponse 0x0312 5 0 [0xFF, 0]).content.take 8 = [0x20, 0x03, 0x12, 5, 0, 2, 0xFF, 0] ∧
    (buildTrunk kindResponse 0x0312 5 0 [0xFF, 0]).content.length = 10 ∧
    (buildRequest (look defaultProfiles 2) 17 0 .read []).content.take 5 = [0x01, 0x11, 0x00, 0x01, 0x00] ∧
    (buildRequest (look defaultProfiles 2) 17 0 .read []).content.length = 9 := by decide +kernel

/-- The 19-byte record of the claim reply told in section 1.8.3. -/
theorem test_worked_notice_record :
    ({ source := .nodeAlert 2 17, severity := 5, globalAddress := some 0x0312, repeats := 3, data := [0xAA, 0xBB]
       forced := false, claim := some ⟨9, 0⟩, previousId := none } : Notice).bytes =
      [1, 5, 1, 2, 17, 0x03, 0x12, 3, 9, 0, 2, 0xAA, 0xBB, 0, 0, 0, 0, 0, 0] := by decide

/-- The AWAIT record of section 1.8.3: read, and written with its unused byte 0. -/
theorem test_worked_step_record :
    readStep [2, 1, 4, 0, 0x01, 0x00, 20, 0, 50, 0x77] = some (.await .read (some 4) 0 1 0 20 50) ∧
    (Step.await .read (some 4) 0 1 0 20 50).bytes = [2, 1, 4, 0, 0x01, 0x00, 20, 0, 50, 0] := by decide

/-! ### The commands, one step each -/

/-- Section 4.11.1: RECIPE_WRITE of the three steps answers DONE with 2 and 1; RECIPE_READ answers 12, 1, 2, 1, 0, 3
and the records; a count of 0 or 9 is BAD_VALUE with 0xFF; clearing an EMPTY slot is NOT_FOUND. -/
theorem test_recipe_requests :
    reply part .recipeWrite 0x30
      ([12, 3] ++ [1, 2, 3, 0, 2, 0, 9, 9, 9, 9] ++ [1, 2, 4, 0, 255, 1, 0, 0, 0, 0] ++
        [2, 1, 5, 0, 1, 0, 20, 0, 50, 0]) = [(0, [2, 1])] ∧
    reply part .recipeRead 0x31 [12] =
      [(0, [12, 1, 2, 1, 0, 3] ++ [1, 2, 3, 0, 2, 0, 0, 0, 0, 0] ++ [1, 2, 4, 0, 255, 1, 0, 0, 0, 0] ++
        [2, 1, 5, 0, 1, 0, 20, 0, 50, 0])] ∧
    reply part .recipeWrite 0x30 [12, 0] = [(3, [0xFF])] ∧
    reply part .recipeWrite 0x30 [12, 1, 3, 0, 0, 0, 0, 0, 0, 0, 0, 0] = [(3, [0])] ∧
    reply (queuedAt 0) .recipeClear 0x32 [12] = [(4, [])] ∧ reply part .recipeClear 0x32 [13] = [(5, [])] ∧
    (after .recipeClear (asking part 0x32 [12])).recipe 12 = none := by decide +kernel

/-- Sections 4.2 and 10.3: CONST_WRITE and CONST_READ at the last block; a block index of 32 is BAD_VALUE. -/
theorem test_constant_block_requests :
    (after .constWrite (asking part 0x33 [31, 7, 8])).block 31 = [7, 8] ∧
    reply part .constRead 0x34 [3] = [(0, [3, 2, 0x7E, 0x01])] ∧
    reply part .constRead 0x34 [32] = [(3, [])] ∧ reply part .constWrite 0x33 [] = [(2, [])] := by decide +kernel

/-- Sections 3.3 to 3.5: the generation wraps from 255 to 0; the address of a route is CONFLICT at another index; a
read returns the record; a VALID route reinstated answers 1. -/
theorem test_route_requests :
    reply part .routeWrite 0x10
      [20, 0, 0x05, 0x10, 3, 126, 7, 31, 0xFF, 0, 3, 0, 1, 7, 0, 7, 0, 0] = [(0, [0])] ∧
    reply part .routeWrite 0x10
      [21, 0, 0x05, 0x10, 3, 126, 7, 31, 0xFF, 0, 3, 0, 1, 7, 0, 7, 0, 0] = [(11, [])] ∧
    reply part .routeWrite 0x10
      [20, 0, 0x05, 0x10, 3, 127, 7, 31, 0xFF, 0, 3, 0, 1, 7, 0, 7, 0, 0] = [(3, [])] ∧
    reply part .routeRead 0x11 [20] =
      [(0, [1, 0x05, 0x10, 0, 8, 2, 0xFF, 12, 31, 1, 0, 100, 1, 1, 5, 0, 255])] ∧
    reply part .routeDelete 0x12 [20] = [(0, [0])] ∧ reply part .routeDelete 0x12 [127] = [(5, [])] ∧
    reply part .routeReinstate 0x13 [20] = [(0, [1])] := by decide +kernel

/-- Sections 2.6 and 2.7: a profile write and read; an even polynomial is BAD_VALUE; one in use IN_USE; the defaults
of profile 3. -/
theorem test_profile_requests :
    reply part .profileWrite 0x20 [3, 16, 3, 0, 0, 0x80, 0x05, 0, 0, 0, 0, 0, 0, 0xFF, 0xFF] = [(0, [])] ∧
    reply part .profileWrite 0x20 [3, 16, 3, 0, 0, 0x80, 0x04, 0, 0, 0, 0, 0, 0, 0, 0] = [(3, [])] ∧
    reply (queuedAt 0) .profileWrite 0x20 [1, 16, 3, 0, 0, 0x80, 0x05, 0, 0, 0, 0, 0, 0, 0, 0] = [(4, [])] ∧
    reply part .profileRead 0x21 [3] =
      [(0, [3, 24, 0, 0, 0x86, 0x4C, 0xFB, 0, 0xB7, 0x04, 0xCE, 0, 0, 0, 0, 0, 0])] := by decide +kernel

/-- Section 4.11.2: the request is admitted QUEUED; a request too short is MALFORMED (8), one whose op is not permitted
DENIED (7), one to another address NO_ROUTE (1). -/
theorem test_admission :
    view (after (.request 0 0x0510 7 2 unlockPayload) part) = some ⟨.queued, 0, 0, 0, []⟩ ∧
    ((after (.request 8 0x0510 7 2 unlockPayload) part).branch 0).urgentQueue = [0] ∧
    out (after (.request 0 0x0510 7 2 [1]) part) = [(8, [0xFF, 0])] ∧
    out (after (.request 0 0x0510 7 1 unlockPayload) part) = [(7, [0xFF, 0])] ∧
    out (after (.request 0 0x0511 64 2 unlockPayload) part) = [(8, [0xFF, 0])] ∧
    out (after (.request 0 0x0511 63 2 unlockPayload) part) = [(1, [0xFF, 0])] := by decide +kernel

/-- The branch payloads of section 4.11.2 at steps 0, 1 and 2, sent with tag 0. -/
theorem test_scheduler_builds_the_step :
    ((after (.schedulerIssue 0) (queuedAt 0)).branch 0).tx.map (fun f => (f.op, f.payload)) =
      some (.write, [0x7E, 0x01, 0x00, 0x40]) ∧
    ((after (.schedulerIssue 0) (queuedAt 1)).branch 0).tx.map (fun f => (f.content.length, f.payload)) =
      some (13, [0x20, 0x00, 0x40, 0x11, 0x22, 0x33, 0x44]) ∧
    ((after (.schedulerIssue 0) (queuedAt 2)).branch 0).tx.map (fun f => (f.op, f.payload)) =
      some (.read, [0x05]) ∧
    view (after (.schedulerIssue 0) (queuedAt 0)) = some ⟨.issued 0 none, 0, 0, 0, []⟩ := by decide +kernel

/-- The answers of sections 4.11.2 and 4.11.3: step 0 advances with nothing appended, step 1 appends 0x04, a busy
status at step 2 begins a spacing of 50, a ready one completes OK with the data 0x04, a nonzero status is NODE_ERROR. -/
theorem test_answers_of_the_worked_recipe :
    view (after (.branchResponse 0 8 0 0 []) (issuedAt 0)) = some ⟨.queued, 1, 0, 0, []⟩ ∧
    view (after (.branchResponse 0 8 0 0 [0x04]) (issuedAt 1)) = some ⟨.queued, 2, 0, 0, [0x04]⟩ ∧
    view (after (.branchResponse 0 8 0 0 [0x01]) (issuedAt 2)) = some ⟨.spacing 50, 2, 1, 0, [0x04]⟩ ∧
    out (after (.branchResponse 0 8 0 0 [0x00]) (issuedAt 2)) = [(0, [0xFF, 0, 0x04])] ∧
    out (after (.branchResponse 0 8 0 6 [0x00]) (issuedAt 2)) = [(17, [2, 6, 0x04])] ∧
    out (after (.branchResponse 0 8 0 0 []) (issuedAt 1)) = [(19, [1, 0])] := by decide +kernel

/-- Sections 6.2, 6.5, 6.6, 7.5 and 7.6: a timeout queues the record again and cools its tag for 10 ms; an abort answers state
2 behind its RESPONSE of status 21; the end of a spacing and of a pause; a cool deadline frees the tag. -/
theorem test_timers_and_abort :
    view (after (.exchangeTimerExpiry 0 0) (issuedAt 2)) = some ⟨.queued, 2, 0, 1, [0x04]⟩ ∧
    ((after (.exchangeTimerExpiry 0 0) (issuedAt 2)).branch 0).tag 0 = .cooling 1 8 200 ∧
    reply (issuedAt 2) .transactionAbort 0x50 [7] = [(21, [2, 0, 0x04]), (0, [2])] ∧
    view (after (.spacingExpiry 0) (withRecord (unlockRecord (.spacing 50) 2))) = some ⟨.queued, 2, 0, 0, [0x04]⟩ ∧
    view (after (.pauseExpiry 0) (withRecord (unlockRecord (.paused 50) 1))) = some ⟨.queued, 2, 0, 0, []⟩ ∧
    ((after (.coolDeadlineExpiry 0 15) (part.setTag 0 15 (.cooling 1 8 7))).branch 0).tag 15 = .free ∧
    reply (issuedAt 2) .pendingRead 0x51 [] = [(0, [7, 0x20, 0x20])] ∧
    view (after (.branchTransmissionEnd 0)
      ((withRecord (unlockRecord (.issued 0 none) 0)).setBranch 0
        { ((part.branch 0).setTag 0 (.inUse 1 8)) with tx := some ⟨8, 0, .write, [], []⟩ })) =
      some ⟨.issued 0 (some 100), 0, 0, 0, []⟩ := by decide +kernel

/-- Chapter 7: BRANCH_ENABLE, BRANCH_DISABLE, BRANCH_DRAIN and its deadline, BRANCH_CONFIG; the drain of a branch with a
record is ACCEPTED and held in tenths of a millisecond. -/
theorem test_branch_requests :
    ((after .branchEnable (asking part 0x41 [3])).branch 3).state = .enabled ∧
    reply part .branchEnable 0x41 [0] = [(10, [])] ∧
    reply (queuedAt 1) .branchDisable 0x43 [0] = [(3, [1, 0]), (0, [])] ∧
    ((after .branchDrain (asking (queuedAt 1) 0x42 [0, 0x01, 0x00])).branch 0).state = .draining 2560 ∧
    reply (queuedAt 1) .branchDrain 0x42 [0, 0x01, 0x00] = [(1, [])] ∧
    (after .branchDrain (asking part 0x42 [0, 0, 1])).notices.map (fun n => (n.source, n.severity, n.forced)) =
      [(.branchDrained 0, 2, false)] ∧
    (after (.drainDeadlineExpiry 0)
      ((queuedAt 1).setBranchState 0 (.draining 9))).notices.map (fun n => (n.source, n.severity, n.forced)) =
      [(.branchDrained 0, 4, true)] ∧
    ((after .branchConfig (asking part 0x40 [3, 4, 255, 15, 3, 7])).branch 3).settings = ⟨4, 255, 15, 3, 7⟩ ∧
    reply part .branchConfig 0x40 [3, 5, 255, 15, 3, 7] = [(3, [])] := by decide +kernel

/-- Section 8: an alert from a mapped node is a notice with its route's severity and address and eight bytes of data;
from an unmapped one it has severity 3; ATTN# is driven and one ATTENTION frame placed. Claims, retires, leases. -/
theorem test_notices :
    (after (.alert 0 8 [1, 2, 3, 4, 5, 6, 7, 8, 9]) part).notices =
      [⟨.nodeAlert 0 8, 5, some 0x0510, 1, [1, 2, 3, 4, 5, 6, 7, 8], false, none, none⟩] ∧
    out (after (.alert 0 8 []) part) = [(0, [1, 5])] ∧ (after (.alert 0 8 []) part).attn = true ∧
    (after (.alert 0 9 []) part).notices = [⟨.nodeAlert 0 9, 3, none, 1, [], false, none, none⟩] ∧
    ((after (.alert 0 8 [9]) (after (.alert 0 8 [7]) part)).notices.map fun n => (n.repeats, n.data)) =
      [(2, [9])] ∧
    out (after .noticeClaim (asking (after (.alert 0 8 []) part) 0x60 [5])) =
      [(0, [1, 5]), (0, [1, 5, 1, 0, 8, 5, 0x10, 1, 0, 0, 0, 0, 0, 0, 0, 0, 0, 0, 0, 0, 0])] ∧
    reply part .noticeClaim 0x60 [7] = [(8, [])] ∧ reply part .noticeRetire 0x61 [0] = [(5, [])] ∧
    (after .noticeSettings (asking part 0x62 [7, 60])).lease = 60 ∧
    reply part .noticeSettings 0x62 [8, 60] = [(3, [])] := by decide +kernel

/-- Section 8.4 and 8.5: a lapsed claim is UNCLAIMED with its id kept as the previous one, and a retire of it is
STALE_CLAIM. -/
theorem test_lease :
    let claimed := after .noticeClaim (asking (after (.alert 0 8 []) part) 0x60 [1])
    ((after (.leaseExpiry 0) claimed).notices.map fun n => (n.claim, n.previousId)) = [(none, some 0)] ∧
    (reply (after (.leaseExpiry 0) claimed) .noticeRetire 0x61 [0]).getLast? = some (7, []) ∧
    (after .noticeRetire (asking claimed 0x61 [0])).notices = [] := by decide +kernel

/-- Chapters 9 and 10: HOLD and RELEASE, the end of a transmission, MANAGE taken at once, the status record after
reset, the counters, a new own address with the reply from the old one. -/
theorem test_trunk_and_agent :
    (after (.hold 0xFF00) part).tx = .held false ∧ (after (.hold 0xFF01) part).tx = .idle ∧
    (after (.release 0xFF00) (after (.hold 0xFF00) part)).tx = .idle ∧
    (after (.manage 0xFF00 9 1 []) part).agent = .executing ⟨9, 1, []⟩ ∧
    (look (after (.manage 0xFF01 9 1 []) part).trunkCounters 3) = 1 ∧
    reply State.reset .statusRead 0x01 [] = [(0, [0x04, 0x40, 1, 0xFF, 0x00, 0, 0, 0, 0, 0, 0, 0, 0, 0, 10])] ∧
    reply part .statusRead 0x02 [1, 2] = [] ∧ reply part .counterRead 0x02 [5, 0] = [(3, [])] ∧
    (reply part .counterRead 0x02 [4, 1]).map (fun r => r.2.length) = [41] ∧
    (after .setOwnAddress (asking part 0x03 [0x12, 0x34])).ownAddress = 0x1234 ∧
    ((after .setOwnAddress (asking part 0x03 [0x12, 0x34])).toq.map fun f => f.frame.address) = [0xFF00] ∧
    reply part .setOwnAddress 0x03 [0x05, 0x10] = [(11, [])] ∧
    reply part .unknownManagementCode 0x05 [] = [(2, [])] ∧
    (after .trunkTransmissionEnd (after .statusRead (asking part 0x01 []))).tx = .idle ∧
    (after .takeRequest { part with inq := [⟨1, 1, []⟩], agent := .waiting }).agent = .executing ⟨1, 1, []⟩ ∧
    (after .pendingRequestResolved { part with attentionPending := true }).attentionPending = false := by
  decide +kernel

/-- Sections 7.7 and 9.1: bad content is a check error; a REQUEST in content bytes is admitted. -/
theorem test_receivers :
    (look (after (.trunkFrame [1, 2, 3]) part).trunkCounters 1) = 1 ∧
    view (after (.trunkFrame (buildTrunk kindRequest 0x0510 7 2 unlockPayload).content) part) =
      some ⟨.queued, 0, 0, 0, []⟩ ∧
    (look (after (.trunkFrame (buildTrunk 0 0x0510 7 2 []).content) part).trunkCounters 2) = 1 ∧
    view (after (.branchFrame 0 ([2, 8, 0, 0, 0] ++ (look defaultProfiles 1).checkBytes [2, 8, 0, 0, 0]))
      (issuedAt 0)) = some ⟨.queued, 1, 0, 0, []⟩ ∧
    ((after (.branchFrame 0 []) part).branch 0).consecutive = 1 := by decide +kernel

/-- Section 9.6 and chapter 10: the resets; a soft reset with scope 3 is BAD_VALUE. -/
theorem test_resets :
    after .hardReset (queuedAt 1) = { State.reset with resetLow := true } ∧
    (after (.hardResetEnd 15) (after .hardReset (queuedAt 1))).ownAddress = 0xFF0F ∧
    reply (queuedAt 1) .softResetTraffic 0x04 [1] = [(0, [1])] ∧
    reply (queuedAt 1) .softResetFull 0x04 [2] = [(0, [2])] ∧
    (after .softResetFull (asking (queuedAt 1) 0x04 [2])).recipe 12 = none ∧
    view (after .softResetTraffic (asking (queuedAt 1) 0x04 [1])) = none ∧
    reply (queuedAt 1) .softResetBadValue 0x04 [3] = [(3, [])] := by decide +kernel

/-- An empty queue idles, and a table row's word spells no command (log entries 2 and 14). -/
theorem test_step_on_an_empty_queue :
    step State.reset = .next { State.reset with now := 1 } ∧ decodeTableWord 8 0 = none := ⟨rfl, rfl⟩

/-! ### Witnesses: for every statement with hypotheses, a state and operands that meet them, clause by clause -/

/-- Every command answers a next state. -/
theorem exec_after (c : Instr) (s : State) : exec c s = .next (after c s) := by cases c <;> rfl

/-- The part has no record. -/
theorem part_record (i : Fin 32) : part.record i = none := by revert i; decide +kernel

/-- The part has one route, at index 20. -/
theorem part_route (i : Fin 128) :
    part.route i = if i = 20 then ⟨255, some ⟨unlockRoute, false, 0⟩⟩ else ⟨0, none⟩ := by
  simp only [State.route, part, look_put, eq_comm (a := i)]
  split <;> simp [State.reset, look]

/-- A live route of the part is the one at index 20. -/
theorem part_live {i : Fin 128} {r : LiveRoute} (h : (part.route i).live = some r) :
    i = 20 ∧ r = ⟨unlockRoute, false, 0⟩ := by
  rw [part_route] at h
  split at h
  · exact ⟨‹_›, (Option.some.inj h).symm⟩
  · exact absurd h (by simp)

/-- The one record of `withRecord` is in slot 0. -/
theorem withRecord_record {r q : Record} {i : Fin 32} (h : (withRecord r).record i = some q) : i = 0 ∧ q = r := by
  have e : (withRecord r).record i = if i = 0 then some r else part.record i := by
    simp only [withRecord, State.setRecord, State.record, look_put, eq_comm (a := i)]
  rw [e, part_record] at h
  split at h
  · exact ⟨‹_›, (Option.some.inj h).symm⟩
  · exact absurd h (by simp)

/-- For StepCarriesOutTheFrontCommand. -/
theorem test_witness_step : ({ part with pending := [.statusRead, .takeRequest] } : State).pending =
    .statusRead :: [.takeRequest] := rfl

/-- For CommandsThatCannotOccurChangeNothing: RESET# low; then each command that cannot occur. -/
theorem test_witness_cannot_occur :
    (({ part with resetLow := true } : State).resetLow = true ∧ Instr.statusRead ≠ .hardReset ∧
      ∀ straps, Instr.statusRead ≠ .hardResetEnd straps) ∧
    part.resetLow = false ∧ part.tx.inFlight = false ∧
    (asking part 0x01 []).agent = .executing ⟨9, 0x01, []⟩ ∧
    ((Instr.counterRead, 0x02) ∈ requestCommands ∧
      ∀ q, (asking part 0x01 []).agent = .executing q → q.code ≠ 0x02) ∧
    (∀ q, (asking part 0x01 []).agent = .executing q → lengthAccepted q.code q.payload = true) ∧
    (part.branch 3).tx = none ∧
    (∀ scope ∈ ([0, 1, 2, 3, 255] : List Byte), (asking part 0x04 [scope]).Executes 0x04 [scope]) ∧
    (∀ slot r, part.record slot = some r → False) ∧
    (∀ p a d, (part.branch 0).tag 15 ≠ .cooling p a d) ∧ (∀ d, (part.branch 0).state ≠ .draining d) ∧
    (∀ n c, part.notices[15]? = some n → n.claim ≠ some c) := by
  refine ⟨⟨rfl, by decide, by simp⟩, rfl, rfl, rfl, ⟨by decide, ?_⟩, ?_, rfl, ?_, ?_, ?_, ?_, ?_⟩
  · intro q h; cases h; decide
  · intro q h; cases h; decide
  · intro scope _; exact ⟨rfl, 9, rfl⟩
  · intro slot r h; rw [part_record] at h; cases h
  · intro p a d; simp [show (part.branch 0).tag 15 = .free by decide +kernel]
  · intro d; simp [show (part.branch 0).state = .enabled by decide +kernel]
  · intro n c h; exact absurd h (by simp [part, State.reset])

/-- For TrunkContentIsBadOrActsAsItsFields: content that is no frame (none of 7 bytes is one), a payload of 97 bytes,
and one of 96 with each kind. -/
theorem test_witness_trunk_content :
    (part.resetLow = false ∧ ∀ kind flags address tag code (payload : List Byte), payload.length ≤ 96 →
      List.replicate 7 (0 : Byte) ≠ trunkBody kind flags address tag code payload ++
        [(trunkCheck (trunkBody kind flags address tag code payload)).extractLsb' 8 8,
         (trunkCheck (trunkBody kind flags address tag code payload)).extractLsb' 0 8]) ∧
    96 < (List.replicate 97 (0 : Byte)).length ∧ (List.replicate 96 (0 : Byte)).length ≤ 96 ∧
    ∀ kind ∈ ([0, 2, 4, 5, 8, 15] : List (BitVec 4)), kind ≠ 1 ∧ kind ≠ 3 ∧ kind ≠ 6 ∧ kind ≠ 7 := by
  refine ⟨⟨rfl, ?_⟩, by decide, by decide, by decide⟩
  intro kind flags address tag code payload _ h
  have := congrArg List.length h
  simp [trunkBody, toBytes_two] at this

/-- For HoldAndReleasePaceTheTransmitter: both addresses, each state of the transmitter, and a HELD period that ends by a
RELEASE, by the content of one and by a hard reset; the content of a HOLD ends none. -/
theorem test_witness_hold :
    part.resetLow = false ∧ (0xFF01 : Address) ≠ part.ownAddress ∧ 0xFF00 = part.ownAddress ∧ part.tx = .idle ∧
    ({ part with tx := .sending } : State).tx = .sending ∧
    ({ part with tx := .held true } : State).tx = .held true ∧
    (let s : State := { part with tx := .held false, toq := [⟨buildTrunk 4 0 0 0 [], .pool⟩] }
     s.tx = .held false ∧ s.toq ≠ []) ∧
    (let s : State := { part with tx := .held false }
     s.tx = .held false ∧ s.toq = [] ∧ exec (.release 0xFF00) s = .next (after (.release 0xFF00) s) ∧
       s.tx.isHeld = true ∧ (after (.release 0xFF00) s).tx.isHeld = false ∧
       (after (.trunkFrame (buildTrunk 7 0xFF00 0 0 []).content) s).tx.isHeld = false ∧
       (after (.trunkFrame (buildTrunk 6 0xFF00 0 0 []).content) s).tx.isHeld = true ∧
       (after .hardReset s).tx.isHeld = false) :=
  ⟨rfl, by decide +kernel, by decide +kernel, rfl, rfl, rfl, ⟨rfl, by simp⟩,
   rfl, rfl, exec_after _ _, rfl, by decide +kernel, by decide +kernel, by decide +kernel, by decide +kernel⟩

/-- A part sending a frame of each place, the reserved one or the pool one first. -/
def sending (place : Place) : State :=
  { part with tx := .sending, toq := [⟨buildTrunk 2 0x0510 7 0 [0xFF, 0], place⟩] }

/-- For TrunkTransmissionEndFreesTheHead. -/
theorem test_witness_transmission_end :
    (sending .reserved).resetLow = false ∧
    (sending .reserved).toq = ⟨buildTrunk 2 0x0510 7 0 [0xFF, 0], .reserved⟩ :: [] ∧
    (sending .pool).toq = ⟨buildTrunk 2 0x0510 7 0 [0xFF, 0], .pool⟩ :: [] ∧
    (sending .reserved).tx.inFlight = true := ⟨rfl, rfl, rfl, rfl⟩

/-- The part with a number of pool places taken and of requests waiting. -/
def crowded (places waiting : Nat) (agent : Agent) : State :=
  { part with
    tx := .held false, toq := List.replicate places ⟨buildTrunk 2 1 64 8 [0xFF, 0], .pool⟩
    inq := List.replicate waiting ⟨1, 1, []⟩, agent }

/-- For ManageFramesQueueAndTheAgentTakesThem: 3 and 4 frames waiting, 7 and 8 pool places taken. -/
theorem test_witness_manage :
    (crowded 7 3 .waiting).resetLow = false ∧ (0xFF01 : Address) ≠ (crowded 7 3 .waiting).ownAddress ∧
    0xFF00 = (crowded 7 3 .waiting).ownAddress ∧ (List.replicate 96 (0 : Byte)).length ≤ 96 ∧
    (crowded 7 3 .waiting).inq.length < 4 ∧ (crowded 7 3 .waiting).agent ≠ .idle ∧
    (crowded 7 0 .idle).inq.length < 4 ∧ (crowded 7 0 .idle).agent = .idle ∧ (crowded 7 0 .idle).inq = [] ∧
    4 ≤ (crowded 7 4 .waiting).inq.length ∧ (∀ q, (crowded 7 4 .waiting).agent ≠ .executing q) ∧
    (crowded 7 4 .waiting).inq = ⟨1, 1, []⟩ :: List.replicate 3 ⟨1, 1, []⟩ ∧
    framesIn .pool (crowded 7 4 .waiting).toq < 8 ∧
    (crowded 8 1 .waiting).inq = ⟨1, 1, []⟩ :: [] ∧ 8 ≤ framesIn .pool (crowded 8 1 .waiting).toq :=
  ⟨rfl, by decide +kernel, by decide +kernel, by decide, by decide, by simp [crowded], by decide, rfl, rfl,
   by decide, by simp [crowded], rfl, by decide +kernel, rfl, by decide +kernel⟩

/-- For FramesOfEachKindJoinTheOutputQueue: 7 and 8 places with the reservation; 6 and 7 without it. -/
theorem test_witness_joining :
    framesIn .pool (crowded 7 0 .idle).toq + (crowded 7 0 .idle).agent.reservation < 8 ∧
    8 ≤ framesIn .pool (crowded 7 0 (.executing ⟨1, 1, []⟩)).toq +
      (crowded 7 0 (.executing ⟨1, 1, []⟩)).agent.reservation ∧
    (crowded 6 1 (.executing ⟨1, 1, []⟩)).agent = .executing ⟨1, 1, []⟩ ∧
    (crowded 6 0 (.executing ⟨1, 1, []⟩)).inq = [] ∧
    (crowded 6 1 (.executing ⟨1, 1, []⟩)).inq = ⟨1, 1, []⟩ :: [] ∧
    framesIn .pool (crowded 6 1 (.executing ⟨1, 1, []⟩)).toq < 7 ∧
    7 ≤ framesIn .pool (crowded 7 1 (.executing ⟨1, 1, []⟩)).toq :=
  ⟨by decide +kernel, by decide +kernel, rfl, rfl, rfl, by decide +kernel, by decide +kernel⟩

/-- For MisfitRequestsAreAnsweredBadRequest: an unknown code, and a known one with a wrong length. -/
theorem test_witness_misfit :
    part.resetLow = false ∧ (asking part 0x05 []).agent = .executing ⟨9, 0x05, []⟩ ∧
    lengthAccepted 0x05 [] = false ∧ lengthAccepted 0x02 [0] = false ∧
    (Instr.counterRead, (0x02 : Byte)) ∈ requestCommands := ⟨rfl, rfl, by decide, by decide, by decide⟩

/-- For every statement about a request in execution: the part executes any request, with any payload. -/
theorem test_witness_executes (s : State) (h : s.resetLow = false) (code : Byte) (payload : List Byte) :
    (asking s code payload).Executes code payload := ⟨h, 9, rfl⟩

/-- For StatusReadReportsThePart, CounterReadReportsAndClearsOneGroup, TrafficResetDiscardsTheWork and
FullResetKeepsOnlyTheOwnAddress: the requests at the boundaries of their operands. -/
theorem test_witness_agent_requests :
    (asking part 0x01 []).Executes 0x01 [] ∧
    ((asking part 0x02 [5, 0]).Executes 0x02 [5, 0] ∧ 4 < (5 : Byte).toNat) ∧
    ((asking part 0x02 [0, 2]).Executes 0x02 [0, 2] ∧ 1 < (2 : Byte).toNat) ∧
    ((asking part 0x02 [0, 1]).Executes 0x02 [0, 1] ∧ (1 : Byte).toNat ≤ 1) ∧
    ((asking part 0x02 [4, 0]).Executes 0x02 [4, 0] ∧ (4 : Byte).toNat = (3 : Fin 4).val + 1) ∧
    (asking part 0x04 [1]).Executes 0x04 [1] ∧ (asking part 0x04 [2]).Executes 0x04 [2] ∧
    ∀ scope ∈ ([0, 3, 255] : List Byte),
      (asking part 0x04 [scope]).Executes 0x04 [scope] ∧ scope ≠ 1 ∧ scope ≠ 2 := by
  refine ⟨⟨rfl, 9, rfl⟩, ⟨⟨rfl, 9, rfl⟩, by decide⟩, ⟨⟨rfl, 9, rfl⟩, by decide⟩, ⟨⟨rfl, 9, rfl⟩, by decide⟩,
    ⟨⟨rfl, 9, rfl⟩, by decide⟩, ⟨rfl, 9, rfl⟩, ⟨rfl, 9, rfl⟩, ?_⟩
  intro scope h
  refine ⟨⟨rfl, 9, rfl⟩, ?_⟩
  revert scope
  decide

/-- For SetOwnAddressRepliesFirst: an address that a route holds, and one that none does. -/
theorem test_witness_own_address :
    ((asking part 0x03 [0x05, 0x10]).Executes 0x03 [0x05, 0x10] ∧
      (part.route 20).live = some ⟨unlockRoute, false, 0⟩ ∧ unlockRoute.globalAddress = (0x05 : Byte) ++ (0x10 : Byte)) ∧
    (asking part 0x03 [0xFF, 0xFF]).Executes 0x03 [0xFF, 0xFF] ∧
    ∀ i r, (part.route i).live = some r → r.config.globalAddress ≠ (0xFF : Byte) ++ (0xFF : Byte) := by
  refine ⟨⟨⟨rfl, 9, rfl⟩, by rw [part_route]; rfl, by decide⟩, ⟨rfl, 9, rfl⟩, ?_⟩
  intro i r h
  rw [(part_live h).2]
  decide

/-- A record in the ranges of R11 that differs from the part's route. -/
def otherRoute : RouteConfig := { unlockRoute with globalAddress := 0x0511, localAddress := 126, branch := 3 }

/-- For RouteWriteTestsThenReplacesTheEntry: an index of 128 and each field just out of range; a conflict by the own
address, by a global address and by branch and local address; a write in range at index 127. -/
theorem test_witness_route_write :
    (∀ p ∈ ([[128, 0, 5, 0x11, 0, 1, 7, 31, 31, 255, 3, 0, 1, 7, 0, 7, 0, 0],
        [0, 0, 5, 0x11, 4, 1, 7, 31, 31, 255, 3, 0, 1, 7, 0, 7, 0, 0],
        [0, 0, 5, 0x11, 0, 0, 7, 31, 31, 255, 3, 0, 1, 7, 0, 7, 0, 0],
        [0, 0, 5, 0x11, 0, 127, 7, 31, 31, 255, 3, 0, 1, 7, 0, 7, 0, 0],
        [0, 0, 5, 0x11, 0, 1, 8, 31, 31, 255, 3, 0, 1, 7, 0, 7, 0, 0],
        [0, 0, 5, 0x11, 0, 1, 7, 32, 31, 254, 3, 0, 1, 7, 0, 7, 0, 0],
        [0, 0, 5, 0x11, 0, 1, 7, 31, 31, 255, 4, 0, 1, 7, 0, 7, 0, 0],
        [0, 0, 5, 0x11, 0, 1, 7, 31, 31, 255, 3, 0, 0, 7, 0, 7, 0, 0],
        [0, 0, 5, 0x11, 0, 1, 7, 31, 31, 255, 3, 0, 1, 8, 0, 7, 0, 0],
        [0, 0, 5, 0x11, 0, 1, 7, 31, 31, 255, 3, 0, 1, 7, 0, 8, 0, 0]] : List (List Byte)),
      (asking part 0x10 p).Executes 0x10 p) ∧
    (127 < (128 : Byte).toNat ∧ 3 < (4 : Byte).toNat ∧ 126 < (127 : Byte).toNat ∧ 7 < (8 : Byte).toNat ∧
      ∃ r ∈ ([32, 31, 254] : List Byte), 31 < r.toNat ∧ r ≠ 0xFF) ∧
    (let c := otherRoute
     (asking part 0x10 (indexByte (127 : Fin 128) :: c.record 0 0 0)).Executes 0x10
       (indexByte (127 : Fin 128) :: c.record 0 0 0) ∧ 1 ≤ c.localAddress.toNat ∧ c.localAddress.toNat ≤ 126 ∧
     c.timeout ≠ 0 ∧ c.globalAddress ≠ part.ownAddress ∧
     ∀ j r, j ≠ (127 : Fin 128) → (part.route j).live = some r →
       r.config.globalAddress ≠ c.globalAddress ∧
         ¬(r.config.branch = c.branch ∧ r.config.localAddress = c.localAddress)) ∧
    ({ otherRoute with globalAddress := 0xFF00 } : RouteConfig).globalAddress = part.ownAddress ∧
    ((20 : Fin 128) ≠ 127 ∧ (part.route 20).live = some ⟨unlockRoute, false, 0⟩) ∧
    unlockRoute.globalAddress = ({ otherRoute with globalAddress := 0x0510 } : RouteConfig).globalAddress ∧
    (let c : RouteConfig := { otherRoute with branch := 0, localAddress := 8 }
     unlockRoute.branch = c.branch ∧ unlockRoute.localAddress = c.localAddress) := by
  refine ⟨?_, by decide, ⟨⟨rfl, 9, rfl⟩, by decide, by decide, by decide, by decide +kernel, ?_⟩, by decide +kernel,
    ⟨by decide, by rw [part_route]; rfl⟩, by decide, by decide⟩
  · intro p _; exact ⟨rfl, 9, rfl⟩
  · intro j r _ h
    rw [(part_live h).2]
    decide

/-- For RouteReadDeleteAndReinstate, RecipesAndBlocksAreReadClearedAndWritten and ProfileWriteAndRead: an index just
past each table, an EMPTY entry and one that is not, a recipe in use and one that is not, contents of 0 and 16 bytes. -/
theorem test_witness_table_requests :
    (∀ code ∈ ([0x11, 0x12, 0x13] : List Byte), (asking part code [128]).Executes code [128] ∧ 127 < (128 : Byte).toNat ∧
      (asking part code [127]).Executes code [127] ∧ (asking part code [20]).Executes code [20]) ∧
    (127 : Byte).toNat = (127 : Fin 128).val ∧ (part.route 127).live = none ∧ (20 : Byte).toNat = (20 : Fin 128).val ∧
    (part.route 20).live = some ⟨unlockRoute, false, 0⟩ ∧
    (∀ code ∈ ([0x31, 0x32, 0x34] : List Byte), (asking part code [32]).Executes code [32] ∧
      (asking part code [12]).Executes code [12]) ∧
    31 < (32 : Byte).toNat ∧ (12 : Byte).toNat = (12 : Fin 32).val ∧ part.recipe 31 = none ∧ part.recipe 12 ≠ none ∧
    part.recipe 12 = some (loadedRecipe unlockSteps) ∧ part.recipeInUse 12 = false ∧
    (queuedAt 0).recipeInUse 12 = true ∧ (queuedAt 0).recipe 12 ≠ none ∧
    ((asking part 0x33 (31 :: List.replicate 16 0)).Executes 0x33 (31 :: List.replicate 16 0) ∧
      (List.replicate 16 (0 : Byte)).length ≤ 16) ∧
    (asking part 0x33 [32]).Executes 0x33 [32] ∧
    (asking part 0x21 [4]).Executes 0x21 [4] ∧ 3 < (4 : Byte).toNat ∧
    (asking part 0x21 [3]).Executes 0x21 [3] ∧ (3 : Byte).toNat = (3 : Fin 4).val ∧
    (∀ p ∈ ([[4, 8, 0, 0, 0, 0, 7, 0, 0, 0, 0, 0, 0, 0, 0], [3, 9, 0, 0, 0, 0, 7, 0, 0, 0, 0, 0, 0, 0, 0],
        [3, 8, 4, 0, 0, 0, 7, 0, 0, 0, 0, 0, 0, 0, 0], [3, 8, 0, 0, 0, 1, 7, 0, 0, 0, 0, 0, 0, 0, 0],
        [3, 8, 0, 0, 0, 0, 7, 0, 0, 1, 0, 0, 0, 0, 0], [3, 8, 0, 0, 0, 0, 7, 0, 0, 0, 0, 0, 0, 1, 0],
        [3, 8, 0, 0, 0, 0, 6, 0, 0, 0, 0, 0, 0, 0, 0]] : List (List Byte)), (asking part 0x20 p).Executes 0x20 p) ∧
    (let p : List Byte := [3, 8, 3, 0, 0, 0, 0xFF, 0, 0, 0, 0xFF, 0, 0, 0, 0xFF]
     (asking part 0x20 p).Executes 0x20 p) ∧ (8 : Byte).toNat = Width.w8.bits ∧ (3 : Byte).toNat ≤ 3 ∧
    (0xFF : BitVec 32).toNat < 2 ^ Width.w8.bits ∧ (0xFF : BitVec 32).getLsbD 0 = true ∧
    part.profileInUse 1 = false ∧ (queuedAt 0).profileInUse 1 = true := by
  refine ⟨?_, by decide, by rw [part_route]; rfl, by decide, by rw [part_route]; rfl, ?_, by decide, by decide,
    by decide +kernel, by decide +kernel, by decide +kernel, by decide +kernel, by decide +kernel,
    by decide +kernel, ⟨⟨rfl, 9, rfl⟩, by decide⟩, ⟨rfl, 9, rfl⟩, ⟨rfl, 9, rfl⟩, by decide, ⟨rfl, 9, rfl⟩, by decide,
    ?_, ⟨rfl, 9, rfl⟩, by decide, by decide, by decide, by decide, by decide +kernel, by decide +kernel⟩
  · intro code _; exact ⟨⟨rfl, 9, rfl⟩, by decide, ⟨rfl, 9, rfl⟩, ⟨rfl, 9, rfl⟩⟩
  · intro code _; exact ⟨⟨rfl, 9, rfl⟩, ⟨rfl, 9, rfl⟩⟩
  · intro p _; exact ⟨rfl, 9, rfl⟩

/-- For the BAD_REQUEST clauses of ProfileWriteAndRead, RecipesAndBlocksAreReadClearedAndWritten, AbortAndPendingRead and
BranchConfigAndEnable: payloads just too short and just too long. -/
theorem test_witness_wrong_lengths :
    (∀ n ∈ [14, 16], (asking part 0x20 (List.replicate n 0)).Executes 0x20 (List.replicate n 0) ∧
      (List.replicate n (0 : Byte)).length ≠ 15) ∧
    (∀ code ∈ ([0x21, 0x31, 0x32, 0x34, 0x50] : List Byte), (asking part code []).Executes code [] ∧
      (asking part code [0, 0]).Executes code [0, 0]) ∧
    ((asking part 0x33 []).Executes 0x33 [] ∧
      (asking part 0x33 (List.replicate 18 0)).Executes 0x33 (List.replicate 18 0) ∧
      17 < (List.replicate 18 (0 : Byte)).length) ∧
    (asking part 0x51 [0]).Executes 0x51 [0] ∧
    ∀ n ∈ [5, 7], (asking part 0x40 (List.replicate n 0)).Executes 0x40 (List.replicate n 0) ∧
      (List.replicate n (0 : Byte)).length ≠ 6 := by
  refine ⟨?_, fun code _ => ⟨⟨rfl, 9, rfl⟩, ⟨rfl, 9, rfl⟩⟩, ⟨⟨rfl, 9, rfl⟩, ⟨rfl, 9, rfl⟩, by decide⟩, ⟨rfl, 9, rfl⟩, ?_⟩
  · intro n h
    refine ⟨⟨rfl, 9, rfl⟩, ?_⟩
    revert n
    decide
  · intro n h
    refine ⟨⟨rfl, 9, rfl⟩, ?_⟩
    revert n
    decide

/-- For LookupsFindTheOneEntry. -/
theorem test_witness_routes_unique : part.RoutesUnique := by
  refine ⟨?_, ?_, ?_⟩
  · intro i j r hr q hq _; rw [(part_live hr).1, (part_live hq).1]
  · intro i j r hr q hq _ _; rw [(part_live hr).1, (part_live hq).1]
  · intro i r hr; rw [(part_live hr).2]; decide +kernel

/-- For RouteFeedbackCountsAndQuarantines: a report of another generation, one accepted, a limit of 0, a count below
its limit and one that reaches it. -/
theorem test_witness_feedback :
    (∀ r, (part.route 20).live = some r → (part.route 20).generation ≠ 254) ∧
    (part.route 20).live = some ⟨unlockRoute, false, 0⟩ ∧ (part.route 20).generation = 255 ∧
    unlockRoute.quarantineLimit ≠ 0 ∧
    unlockRoute.quarantineLimit.toNat ≤ (if (0 : BitVec 8) = 255 then (255 : BitVec 8) else 0 + 1).toNat ∧
    ({ unlockRoute with quarantineLimit := 0 } : RouteConfig).quarantineLimit = 0 ∧
    (if (253 : BitVec 8) = 255 then (255 : BitVec 8) else 253 + 1).toNat <
      ({ unlockRoute with quarantineLimit := 255 } : RouteConfig).quarantineLimit.toNat := by
  rw [part_route]
  exact ⟨by decide, rfl, rfl, by decide, by decide, rfl, by decide⟩

/-- For RecipeWriteTestsThenLoadsTheSlot: an index of 32, counts of 0 and 9, a step that takes the capture total to 65
behind one that takes it to 64, a step without a kind, and a recipe that loads, in use and not. -/
theorem test_witness_recipe_write :
    (let p : List Byte := 32 :: 1 :: [3, 0, 1, 0, 0, 0, 0, 0, 0, 0]
     (asking part 0x30 p).Executes 0x30 p ∧ 31 < (32 : Byte).toNat ∧
       ([3, 0, 1, 0, 0, 0, 0, 0, 0, 0] : List Byte).length = 10 * (1 : Byte).toNat) ∧
    ((asking part 0x30 [12, 0]).Executes 0x30 [12, 0] ∧ ([] : List Byte).length = 10 * (0 : Byte).toNat) ∧
    (8 < (9 : Byte).toNat ∧ (List.replicate 90 (0 : Byte)).length = 10 * (9 : Byte).toNat) ∧
    (let good : List Step := [.issue .read none 0 .all (.bytes 64)]
     let before : List (List Byte) := [[1, 1, 255, 0, 255, 64, 9, 9, 9, 9]]
     let bad : List Byte := [1, 1, 255, 0, 255, 1, 0, 0, 0, 0]
     let p : List Byte := 12 :: 2 :: (before.flatten ++ bad ++ [])
     (asking part 0x30 p).Executes 0x30 p ∧ (12 : Byte).toNat ≤ 31 ∧ (2 : Byte).toNat ≤ 8 ∧ bad.length = 10 ∧
     List.Forall₂ Step.WrittenAs good before ∧ (∀ step ∈ good, step.inRange = true) ∧ captureTotal good ≤ 64 ∧
     ∀ step, step.WrittenAs bad → step.inRange = true → 64 < captureTotal (good ++ [step])) ∧
    (∀ step : Step, step.WrittenAs [0, 1, 255, 0, 255, 1, 0, 0, 0, 0] → False) ∧
    (let p : List Byte := indexByte (12 : Fin 32) :: BitVec.ofNat 8 unlockSteps.length ::
       (unlockSteps.map Step.bytes).flatten
     (asking part 0x30 p).Executes 0x30 p ∧ 1 ≤ unlockSteps.length ∧ unlockSteps.length ≤ 8 ∧
     List.Forall₂ Step.WrittenAs unlockSteps (unlockSteps.map Step.bytes) ∧
     (∀ step ∈ unlockSteps, step.inRange = true) ∧ captureTotal unlockSteps ≤ 64) ∧
    part.recipeInUse 12 = false ∧ (queuedAt 0).recipeInUse 12 = true := by
  refine ⟨⟨⟨rfl, 9, rfl⟩, by decide, by decide⟩, ⟨⟨rfl, 9, rfl⟩, by decide⟩, ⟨by decide, by decide⟩,
    ⟨⟨rfl, 9, rfl⟩, by decide, by decide, by decide, ?_, by decide, by decide, ?_⟩, ?_,
    ⟨⟨rfl, 9, rfl⟩, by decide, by decide, ?_, by decide, by decide⟩, by decide +kernel, by decide +kernel⟩
  · exact .cons ⟨9, 9, 9, 9, by decide⟩ .nil
  · intro step h _
    cases step with
    | issue op block offset slice capture =>
      obtain ⟨u, v, w, x, h⟩ := h
      simp only [List.cons.injEq] at h
      obtain ⟨_, _, _, _, _, h, _⟩ := h
      cases capture with
      | all => simp [Extent.byte] at h
      | bytes n =>
        have : n.val = 1 := by
          have := congrArg BitVec.toNat h
          simp [Extent.byte, indexByte] at this
          omega
        simp [captureTotal, Step.fixedCapture, this]
    | await => obtain ⟨u, h⟩ := h; simp at h
    | pause => obtain ⟨t, u, v, w, x, y, z, h⟩ := h; simp at h
  · intro step h
    cases step with
    | issue => obtain ⟨u, v, w, x, h⟩ := h; simp at h
    | await => obtain ⟨u, h⟩ := h; simp at h
    | pause => obtain ⟨t, u, v, w, x, y, z, h⟩ := h; simp at h
  · exact .cons ⟨0, 0, 0, 0, by decide⟩ (.cons ⟨0, 0, 0, 0, by decide⟩ (.cons ⟨0, by decide⟩ .nil))

/-- The record of an open branch, in slot 0, as the statements about one record ask. -/
theorem only_record (r : Record) : ∀ i q, (withRecord r).record i = some q → i = 0 :=
  fun _ _ h => (withRecord_record h).1

/-- The record of `withRecord` by its slot. -/
theorem withRecord_zero (r : Record) : (withRecord r).record 0 = some r := by simp [withRecord]

/-- Lookup of the part's route. -/
theorem part_lookup : part.forwardLookup 0x0510 = some (20, ⟨unlockRoute, false, 0⟩) := by decide +kernel

/-- The part with its branch 0 in a state. -/
def withState (state : BranchState) : State := part.setBranchState 0 state

/-- The part with 32 reserved places filled, so that its budget is used up. -/
def spent : State :=
  { part with tx := .held false, toq := List.replicate 32 ⟨buildTrunk 2 1 0 0 [0xFF, 0], .reserved⟩ }

/-- For AdmissionRefusesByTheFirstFailingCheck: each check's failure at a boundary. -/
theorem test_witness_refusals :
    part.resetLow = false ∧ unlockPayload.length ≤ 96 ∧
    (63 < (64 : Byte).toNat ∧ (0 : Byte) = 0 ∧ 3 < (4 : Byte).toNat ∧ 64 < (List.replicate 65 (0 : Byte)).length ∧
      (1 : BitVec 4).extractLsb' 0 3 ≠ 0) ∧
    ((63 : Byte).toNat ≤ 63 ∧ (2 : Byte) = Op.write.code ∧ unlockPayload.length ≤ 64 ∧
      (8 : BitVec 4).extractLsb' 0 3 = 0) ∧
    part.forwardLookup 0x0511 = none ∧ part.forwardLookup 0x0510 = some (20, ⟨unlockRoute, false, 0⟩) ∧
    (part.setRoute 20 ⟨255, some ⟨unlockRoute, true, 1⟩⟩).forwardLookup 0x0510 = some (20, ⟨unlockRoute, true, 1⟩) ∧
    unlockRoute.permits .read = false ∧ unlockRoute.permits .write = true ∧
    (part.setRecipe 12 none).recipeOf (unlockRoute.recipeFor .write) .write = none ∧
    part.recipeOf (unlockRoute.recipeFor .write) .write = some (loadedRecipe unlockSteps) ∧
    ([0] : List Byte).length < (loadedRecipe unlockSteps).neededLength ∧
    (loadedRecipe unlockSteps).neededLength ≤ ([0, 0] : List Byte).length ∧ unlockRoute.branch = 0 ∧
    ((withState .faulted).branch 0).state = .faulted ∧ ((withState .disabled).branch 0).state = .disabled ∧
    ((withState (.draining 9)).branch 0).state.isDraining = true ∧ (part.branch 0).state = .enabled ∧
    (∃ j q, (queuedAt 0).record j = some q ∧ q.trunkTag.val = (7 : Byte).toNat) ∧
    ((∀ j q, spent.record j = some q → q.trunkTag.val ≠ (7 : Byte).toNat) ∧ 32 ≤ spent.budgetInUse) := by
  refine ⟨rfl, by decide, by decide, by decide, by decide +kernel, part_lookup, by decide +kernel, by decide,
    by decide, by decide +kernel, by decide +kernel, by decide, by decide, rfl, by decide +kernel, by decide +kernel,
    by decide +kernel, by decide +kernel, ⟨0, unlockRecord .queued 0, by decide +kernel, by decide⟩, ?_,
    by decide +kernel⟩
  intro j q h
  rw [show spent.record j = none from part_record j] at h
  cases h

/-- For AdmissionCreatesTheRecord: a first step of ISSUE and one of PAUSE, the lowest slot, and slot 1 behind a record. -/
theorem test_witness_admission :
    part.resetLow = false ∧ unlockPayload.length ≤ 64 ∧ (8 : BitVec 4).extractLsb' 0 3 = 0 ∧
    part.forwardLookup 0x0510 = some (20, ⟨unlockRoute, false, 0⟩) ∧ unlockRoute.permits .write = true ∧
    part.recipeOf (unlockRoute.recipeFor .write) .write = some (loadedRecipe unlockSteps) ∧
    (loadedRecipe unlockSteps).steps[0]? = some (.issue .write (some 3) 0 (.bytes 2) (.bytes 0)) ∧
    (loadedRecipe unlockSteps).neededLength ≤ unlockPayload.length ∧
    (part.branch unlockRoute.branch).state = .enabled ∧
    (∀ j q, part.record j = some q → q.trunkTag ≠ 63) ∧ part.budgetInUse < 32 ∧ part.record 0 = none ∧
    (∀ j, j < (0 : Fin 32) → part.record j ≠ none) ∧
    (part.setRecipe 12 (some (loadedRecipe [.pause 10000]))).recipeOf (unlockRoute.recipeFor .write) .write =
      some (loadedRecipe [.pause 10000]) ∧
    (loadedRecipe [.pause 10000]).steps[0]? = some (.pause 10000) ∧
    ((∀ j q, (queuedAt 0).record j = some q → q.trunkTag ≠ 63) ∧ (queuedAt 0).record 1 = none ∧
      ∀ j, j < (1 : Fin 32) → (queuedAt 0).record j ≠ none) := by
  refine ⟨rfl, by decide, by decide, part_lookup, by decide, by decide +kernel, by decide, by decide,
    by decide +kernel, ?_, by decide +kernel, by decide +kernel, by decide +kernel, by decide +kernel, by decide,
    ?_, by decide +kernel, by decide +kernel⟩
  · intro j q h; rw [part_record] at h; cases h
  · intro j q h; rw [(withRecord_record h).2]; decide

/-- The part with one record at a step, its branch draining. -/
def draining (state : RecordState) : State :=
  (withRecord (unlockRecord state 1)).setBranchState 0 (.draining 9)

/-- For EndingWritesTheResponseAndFreesTheRecord: a DRAINING branch whose last record ends, and an ENABLED one. -/
theorem test_witness_ending :
    (∃ d, ((draining (.paused 3)).branch 0).state = .draining d) ∧
    (let r := unlockRecord (.paused 3) 1
     let response := buildTrunk kindResponse r.globalAddress (indexByte r.trunkTag) Ending.ok.code
       (0xFF :: 0 :: r.accumulator)
     ((((draining (.paused 3)).join .reserved response).bumpTrunk .completedOk).setRecord 0 none).liveOn 0 = 0) ∧
    ∀ d, ((withRecord (unlockRecord (.paused 3) 1)).branch 0).state ≠ .draining d := by
  refine ⟨⟨9, by decide +kernel⟩, by decide +kernel, ?_⟩
  intro d
  rw [show ((withRecord (unlockRecord (.paused 3) 1)).branch 0).state = .enabled by decide +kernel]
  simp

/-- For BranchEventEndsItsRecordsInSlotOrder: each status it imposes, and an ISSUED record it ends. -/
theorem test_witness_branch_event :
    (∀ e ∈ ([.branchFault, .branchDown, .aborted] : List Ending), e = .branchFault ∨ e = .branchDown ∨ e = .aborted) ∧
    (((issuedAt 1).record 0).filter fun r => r.snapshot.branch == 0) =
      some (unlockRecord (.issued 0 (some 100)) 1) := by
  constructor
  · decide
  · decide +kernel

/-- For AbortAndPendingRead: a tag of 64, one that no record holds, and a record in each state. -/
theorem test_witness_abort :
    ((asking part 0x50 [64]).Executes 0x50 [64] ∧ 63 < (64 : Byte).toNat) ∧
    ((asking part 0x50 [63]).Executes 0x50 [63] ∧ (63 : Byte).toNat ≤ 63 ∧
      ∀ i r, part.record i = some r → r.trunkTag.val ≠ (63 : Byte).toNat) ∧
    (∀ state ∈ ([.queued, .issued 0 (some 9), .spacing 9, .paused 9] : List RecordState),
      (withRecord (unlockRecord state 0)).record 0 = some (unlockRecord state 0) ∧
      (unlockRecord state 0).trunkTag.val = (7 : Byte).toNat ∧
      (∀ i q, (withRecord (unlockRecord state 0)).record i = some q →
        q.trunkTag = (unlockRecord state 0).trunkTag → i = 0) ∧
      (asking (withRecord (unlockRecord state 0)) 0x50 [7]).Executes 0x50 [7]) ∧
    (asking part 0x51 []).Executes 0x51 [] := by
  refine ⟨⟨⟨rfl, 9, rfl⟩, by decide⟩, ⟨⟨rfl, 9, rfl⟩, by decide, ?_⟩, ?_, ⟨rfl, 9, rfl⟩⟩
  · intro i r h; rw [part_record] at h; cases h
  · intro state _
    exact ⟨withRecord_zero _, rfl, fun i q h _ => only_record _ i q h, rfl, 9, rfl⟩

/-- For AdvanceTakesUpTheNextStep: the last step, and steps before an ISSUE, an AWAIT and a PAUSE. -/
theorem test_witness_advance :
    (part.stepsOf (unlockRecord .queued 2)).length ≤ 2 + 1 ∧
    (part.stepsOf (unlockRecord .queued 0))[0 + 1]? = some (.issue .write (some 4) 0 .all (.bytes 1)) ∧
    (part.stepsOf (unlockRecord .queued 1))[1 + 1]? = some (.await .read (some 5) 0 1 0 20 50) ∧
    ((part.setRecipe 12 (some (loadedRecipe [.pause 1, .pause 1]))).stepsOf (unlockRecord .queued 0))[0 + 1]? =
      some (.pause 1) := by
  decide +kernel

/-- For AnswersAreJudgedByTheStep: a capture of 1 with 0 and 1 bytes, an append to 64 and past it, a capture of all,
an AWAIT that matches, that repeats at attempts 18 and that is exhausted at 19, and a payload without the byte. -/
theorem test_witness_answers :
    (6 : Byte) ≠ 0 ∧
    part.stepOf (unlockRecord .queued 1) = some (.issue .write (some 4) 0 .all (.bytes 1)) ∧
    (([] : List Byte).length < (1 : Fin 65).val ∧ (1 : Fin 65).val ≤ ([4] : List Byte).length ∧
      64 < (List.replicate 64 (0 : Byte)).length + (1 : Fin 65).val ∧
      (List.replicate 63 (0 : Byte)).length + (1 : Fin 65).val ≤ 64) ∧
    (part.setRecipe 12 (some (loadedRecipe [.issue .read none 0 .all .all]))).stepOf (unlockRecord .queued 0) =
      some (.issue .read none 0 .all .all) ∧
    (64 < (List.replicate 64 (0 : Byte)).length + ([4] : List Byte).length ∧
      (List.replicate 63 (0 : Byte)).length + ([4] : List Byte).length ≤ 64) ∧
    part.stepOf (unlockRecord .queued 2) = some (.await .read (some 5) 0 1 0 20 50) ∧
    (([] : List Byte).length ≤ (0 : Fin 64).val ∧ ([2] : List Byte)[(0 : Fin 64).val]? = some 2 ∧
      (2 : Byte) &&& 1 = 0 ∧ (3 : Byte) &&& 1 ≠ 0 ∧ 18 + 1 < (20 : BitVec 8).toNat ∧
      (20 : BitVec 8).toNat ≤ 19 + 1) := by
  decide +kernel

/-- For ExchangeTimeoutRetriesOrEnds: retries below the limit and at it; for BranchTransmissionEndStartsTheTimer and
ResponsesAreMatchedToTheirTags: the IN_USE tag and its record. -/
theorem test_witness_exchange :
    let r := unlockRecord (.issued 0 (some 100)) 1
    let spent : Record := { r with retries := 1 }
    (issuedAt 1).resetLow = false ∧ (issuedAt 1).record 0 = some r ∧ r.snapshot.branch = 0 ∧
    r.state = .issued 0 (some 100) ∧ r.retries < r.snapshot.retryLimit.val ∧
    spent.snapshot.retryLimit.val ≤ spent.retries ∧
    (∀ i q d, (issuedAt 1).record i = some q → q.snapshot.branch = 0 → q.state = .issued 0 d → i = 0) ∧
    ((issuedAt 1).branch 0).tag 0 = .inUse 1 8 ∧ ((issuedAt 1).branch 0).state.working = true ∧
    ((issuedAt 1).setBranch 0 { (issuedAt 1).branch 0 with tx := some ⟨8, 0, .write, [], []⟩ } |>.branch 0).tx =
      some ⟨8, 0, .write, [], []⟩ ∧
    (∀ p a, (part.branch 0).tag 15 ≠ .inUse p a) ∧ (8 : Byte) ≠ 0 ∧ (126 : Byte).toNat ≤ 126 ∧
    126 < (127 : Byte).toNat ∧ 15 < (16 : Byte).toNat ∧ (15 : Byte).toNat = (15 : Fin 16).val ∧ (9 : Byte) ≠ 8 ∧
    (List.replicate 64 (0 : Byte)).length ≤ 64 := by
  refine ⟨rfl, by decide +kernel, rfl, rfl, by decide, by decide, ?_, by decide +kernel, by decide +kernel,
    by decide +kernel, ?_, by decide, by decide, by decide, by decide, by decide, by decide, by decide⟩
  · intro i q d h _ _; exact only_record _ i q h
  · intro p a; simp [show (part.branch 0).tag 15 = .free by decide +kernel]

/-- For BranchConfigAndEnable and BranchDisableAndDrain: each value just out of range, and each state of the branch. -/
theorem test_witness_branch_requests :
    (∀ p ∈ ([[4, 1, 1, 1, 0, 0], [0, 0, 1, 1, 0, 0], [0, 5, 1, 1, 0, 0], [0, 1, 0, 1, 0, 0], [0, 1, 1, 0, 0, 0],
        [0, 1, 1, 16, 0, 0], [0, 1, 1, 1, 4, 0], [0, 1, 1, 1, 0, 8], [0, 4, 255, 15, 3, 7]] : List (List Byte)),
      (asking part 0x40 p).Executes 0x40 p) ∧
    ¬(3 < (0 : Byte).toNat ∨ (4 : Byte) = 0 ∨ 4 < (4 : Byte).toNat ∨ (255 : Byte) = 0 ∨ (15 : Byte) = 0 ∨
      15 < (15 : Byte).toNat ∨ 3 < (3 : Byte).toNat ∨ 7 < (7 : Byte).toNat) ∧
    ((3 : Byte).toNat = (3 : Fin 4).val ∧ (7 : Byte).toNat = (7 : Fin 8).val) ∧
    (∀ code ∈ ([0x41, 0x43] : List Byte), (asking part code [4]).Executes code [4] ∧
      (asking part code [0]).Executes code [0]) ∧
    ((part.branch 0).state = .enabled ∧ ((withState (.draining 9)).branch 0).state.isDraining = true ∧
      ((withState .faulted).branch 0).state = .faulted ∧ (part.branch 3).state = .disabled) ∧
    ((asking part 0x42 [0, 0, 0]).Executes 0x42 [0, 0, 0] ∧
      (asking (queuedAt 0) 0x42 [0, 0, 1]).Executes 0x42 [0, 0, 1] ∧ ¬((0 : Byte) = 0 ∧ (1 : Byte) = 0)) ∧
    (∃ i r, (queuedAt 0).record i = some r ∧ r.snapshot.branch = 0) ∧
    ∀ i r, part.record i = some r → r.snapshot.branch ≠ 0 := by
  refine ⟨?_, by decide, by decide, ?_, by decide +kernel, ⟨⟨rfl, 9, rfl⟩, ⟨rfl, 9, rfl⟩, by decide⟩,
    ⟨0, unlockRecord .queued 0, by decide +kernel, rfl⟩, ?_⟩
  · intro p _; exact ⟨rfl, 9, rfl⟩
  · intro code _; exact ⟨⟨rfl, 9, rfl⟩, ⟨rfl, 9, rfl⟩⟩
  · intro i r h; rw [part_record] at h; cases h

/-- For RecordAndBranchDeadlinesExpire. -/
theorem test_witness_deadlines :
    (withRecord (unlockRecord (.spacing 50) 2)).resetLow = false ∧
    (withRecord (unlockRecord (.spacing 50) 2)).record 0 = some (unlockRecord (.spacing 50) 2) ∧
    (unlockRecord (.spacing 50) 2).state = .spacing 50 ∧ (unlockRecord (.paused 50) 1).state = .paused 50 ∧
    ((draining (.paused 3)).branch 0).state = .draining 9 ∧
    ((part.setTag 0 15 (.cooling 1 8 7)).branch 0).tag 15 = .cooling 1 8 7 :=
  ⟨rfl, withRecord_zero _, rfl, rfl, by decide +kernel, by decide +kernel⟩

/-- For SchedulerIssuesTheHeadRecord: a condition that fails, the head of NORMAL with URGENT empty, the head of URGENT,
an AWAIT step, and an ISSUE payload of 64 and of 65 bytes. -/
theorem test_witness_scheduler :
    ((part.branch 0).urgentQueue = [] ∧ (part.branch 0).normalQueue = []) ∧
    ((queuedAt 0).resetLow = false ∧ ((queuedAt 0).branch 0).state.working = true ∧
      ((queuedAt 0).branch 0).tx = none ∧ (queuedAt 0).issuedOn 0 < ((queuedAt 0).branch 0).settings.window ∧
      ((queuedAt 0).branch 0).tag 0 = .free ∧ (∀ m, m < (0 : Fin 16) → ((queuedAt 0).branch 0).tag m ≠ .free) ∧
      ((queuedAt 0).branch 0).urgentQueue = [] ∧ ((queuedAt 0).branch 0).normalQueue = 0 :: [] ∧
      (queuedAt 0).record 0 = some (unlockRecord .queued 0) ∧
      (queuedAt 0).stepOf (unlockRecord .queued 0) = some (.issue .write (some 3) 0 (.bytes 2) (.bytes 0)) ∧
      ([0x7E, 0x01, 0x00, 0x40] : List Byte) =
        (queuedAt 0).block 3 ++ ((unlockRecord .queued 0).payload.drop (0 : Fin 64).val).take (2 : Fin 65).val) ∧
    (((queuedAt 0).setBranch 0 { part.branch 0 with urgentQueue := [0] }).branch 0).urgentQueue = 0 :: [] ∧
    ((queuedAt 2).stepOf (unlockRecord .queued 2) = some (.await .read (some 5) 0 1 0 20 50) ∧
      ([5] : List Byte) = (queuedAt 2).block 5) ∧
    (let r : Record := { unlockRecord .queued 1 with payload := List.replicate 64 0 }
     64 < ((queuedAt 1).block 4 ++ r.payload.drop (0 : Fin 64).val).length ∧
       (r.payload.drop (0 : Fin 64).val).length ≤ 64) := by
  decide +kernel

/-- For FramesOnAClosedBranchAreIgnored, BranchContentIsBadOrActsAsItsFields and AlertsAreSuppressedOrOffered: closed
and working branches, content that is no frame, payloads of 64 and 65 bytes, the profile of a tag and the default one, a
mapped and an unmapped node, severities of 0 and not. -/
theorem test_witness_branch_frames :
    ((part.branch 3).state = .disabled ∧ ((withState .faulted).branch 0).state = .faulted) ∧
    (part.branch 0).state.working = true ∧
    (∀ kind localAddress tag opOrStatus (payload : List Byte) (p : Fin 4), payload.length ≤ 64 →
      (part.branch 0).ChecksWith kind tag p →
      [] ≠ branchBody kind localAddress tag opOrStatus payload ++
        (part.profile p).checkBytes (branchBody kind localAddress tag opOrStatus payload)) ∧
    64 < (List.replicate 65 (0 : Byte)).length ∧ (List.replicate 64 (0 : Byte)).length ≤ 64 ∧
    ((issuedAt 0).branch 0).ChecksWith 2 0 1 ∧ (part.branch 0).ChecksWith 2 16 1 ∧ (part.branch 0).ChecksWith 3 0 1 ∧
    (part.branch 0).ChecksWith 255 0 1 ∧ (255 : Byte) ≠ 2 ∧ (255 : Byte) ≠ 3 ∧
    (126 < (127 : Byte).toNat ∧ (8 : Byte) ≠ 0 ∧ (8 : Byte).toNat ≤ 126) ∧
    part.reverseLookup 0 8 = some (20, ⟨unlockRoute, false, 0⟩) ∧ unlockRoute.alertSeverity ≠ 0 ∧
    ({ unlockRoute with alertSeverity := 0 } : RouteConfig).alertSeverity = 0 ∧ part.reverseLookup 0 9 = none := by
  refine ⟨by decide +kernel, by decide +kernel, ?_, by decide, by decide, ?_, ?_, ?_, ?_, by decide, by decide,
    by decide, by decide +kernel, by decide, by decide, by decide +kernel⟩
  · intro kind localAddress tag opOrStatus payload p _ _ h
    simp [branchBody] at h
  · exact Or.inl ⟨rfl, 0, by decide, 8, Or.inl (by decide +kernel)⟩
  · refine Or.inr ⟨fun _ n h => ?_, by decide +kernel⟩
    exact absurd h (by revert n; decide)
  · exact Or.inr ⟨fun h => absurd h (by decide), by decide +kernel⟩
  · exact Or.inr ⟨fun h => absurd h (by decide), by decide +kernel⟩

/-- A notice of a node on branch 0. -/
def notice (node : Byte) (severity : Fin 8) (claim : Option Claim) : Notice :=
  { source := .nodeAlert 0 node, severity, globalAddress := none, repeats := 1, data := [], forced := false, claim
    previousId := none }

/-- The part with notices. -/
def noticing (notices : List Notice) : State := { part with notices }

/-- Sixteen notices: fifteen CLAIMED and one UNCLAIMED of severity 3. -/
def sixteen : List Notice := notice 1 3 none :: List.replicate 15 (notice 2 7 (some ⟨0, 9⟩))

/-- For ArrivalsCoalesceJoinReplaceOrDrop: an UNCLAIMED notice of the source; none, with 15 and 16 held; a lower
severity to replace and none lower. -/
theorem test_witness_arrivals :
    ((noticing [notice 1 3 none]).notices[0]? = some (notice 1 3 none) ∧ (notice 1 3 none).claim = none ∧
      (notice 1 3 none).source = (notice 1 4 none).source) ∧
    ((∀ m ∈ sixteen.take 15, m.claim = none → m.source ≠ (notice 9 4 none).source) ∧ (sixteen.take 15).length < 16) ∧
    ((∀ m ∈ sixteen, m.claim = none → m.source ≠ (notice 9 4 none).source) ∧ 16 ≤ sixteen.length) ∧
    (sixteen[0]? = some (notice 1 3 none) ∧ (notice 1 3 none).severity < (notice 9 4 none).severity ∧
      ∀ (j : Nat) (k : Notice), sixteen[j]? = some k → k.claim = none →
        (notice 1 3 none).severity ≤ k.severity ∧ (k.severity = (notice 1 3 none).severity → 0 ≤ j)) ∧
    ∀ m ∈ sixteen, m.claim = none → (notice 9 3 none).severity ≤ m.severity := by
  refine ⟨⟨rfl, rfl, rfl⟩, ⟨by decide, by decide⟩, ⟨by decide, by decide⟩, ⟨rfl, by decide, ?_⟩, by decide⟩
  intro j k h hc
  have : k ∈ sixteen := List.mem_of_getElem? h
  have key : ∀ k ∈ sixteen, k.claim = none → (notice 1 3 none).severity ≤ k.severity := by decide
  exact ⟨key k this hc, fun _ => Nat.zero_le j⟩

/-- For AttentionIsRequestedOnceARise: the condition false and true, 7 and 8 pool places taken, a pending request. -/
theorem test_witness_attention :
    (¬∃ n ∈ (noticing [notice 1 3 (some ⟨0, 9⟩)]).notices, n.claim = none ∧ (0 : Fin 8) < n.severity) ∧
    (∃ n ∈ (noticing [notice 1 1 none]).notices, n.claim = none ∧ (noticing [notice 1 1 none]).threshold < n.severity) ∧
    (crowded 7 0 .idle).poolTaken < 8 ∧ 8 ≤ (crowded 7 0 (.executing ⟨1, 1, []⟩)).poolTaken ∧
    ({ part with attentionPending := true } : State).attentionPending = true ∧ part.attentionPending = false ∧
    part.attn = false ∧ part.resetLow = false := by
  refine ⟨by decide, ?_, by decide +kernel, by decide +kernel, rfl, rfl, rfl, rfl⟩
  exact ⟨notice 1 1 none, by simp [noticing], rfl, by decide +kernel⟩

/-- For ClaimTakesTheHighestThenOldest, RetireRemovesTheOldestClaimOfTheId and NoticeSettingsAreReplaced: minima of 0 and
8, none that qualifies and one that does; an id that is held, that has lapsed, that is unknown; a threshold of 8 and
leases of 0 and 61, and the largest in range. -/
theorem test_witness_notice_requests :
    (∀ p ∈ ([[0x60, 0], [0x60, 8], [0x60, 7], [0x60, 1], [0x61, 255]] : List (List Byte)),
      ∀ code operand, p = [code, operand] →
        (asking (noticing sixteen) code [operand]).Executes code [operand]) ∧
    (7 < (8 : Byte).toNat ∧ (7 : Byte) ≠ 0 ∧ (7 : Byte).toNat ≤ 7 ∧
      ∀ n ∈ sixteen, n.claim = none → n.severity.val < (7 : Byte).toNat) ∧
    (sixteen[0]? = some (notice 1 3 none) ∧ (1 : Byte).toNat ≤ (notice 1 3 none).severity.val ∧
      ∀ (j : Nat) (m : Notice), sixteen[j]? = some m → m.claim = none →
        m.severity ≤ (notice 1 3 none).severity ∧ (m.severity = (notice 1 3 none).severity → 0 ≤ j)) ∧
    (sixteen[1]? = some (notice 2 7 (some ⟨0, 9⟩)) ∧
      ∀ (j : Nat) (m : Notice) (d : Claim), sixteen[j]? = some m → m.claim = some d → d.id = 0 → 1 ≤ j) ∧
    (∀ n ∈ sixteen, ∀ c, n.claim = some c → c.id ≠ 255) ∧
    (∃ n ∈ [{ notice 1 3 none with previousId := some 255 }], n.previousId = some 255) ∧
    (∀ n ∈ sixteen, n.previousId ≠ some 255) ∧ (notice 1 3 none).data.length ≤ 8 ∧
    (∀ p ∈ ([[8, 1], [7, 0], [7, 61], [7, 60]] : List (List Byte)), (asking part 0x62 p).Executes 0x62 p) ∧
    (7 < (8 : Byte).toNat ∧ 60 < (61 : Byte).toNat ∧ (7 : Byte).toNat = (7 : Fin 8).val ∧ (60 : Byte) ≠ 0 ∧
      (60 : Byte).toNat ≤ 60) ∧
    ({ part with threshold := 7 } : State).threshold = 7 := by
  refine ⟨?_, by decide, ⟨rfl, by decide, ?_⟩, ⟨rfl, ?_⟩, ?_, ⟨_, List.mem_singleton.mpr rfl, rfl⟩, by decide, by decide, ?_, by decide,
    rfl⟩
  · intro p _ code operand _; exact ⟨rfl, 9, rfl⟩
  · intro j m h hc
    have key : ∀ k ∈ sixteen, k.claim = none → k.severity ≤ (notice 1 3 none).severity := by decide
    exact ⟨key m (List.mem_of_getElem? h) hc, fun _ => Nat.zero_le j⟩
  · intro j m d h hc _
    rcases j with _ | j
    · cases h; cases hc
    · omega
  · intro n hn c hc
    have key : ∀ n ∈ sixteen, n.claim ≠ none → n.claim = some ⟨0, 9⟩ := by decide
    have e := key n hn (by rw [hc]; simp)
    rw [hc] at e
    cases e
    decide
  · intro p _; exact ⟨rfl, 9, rfl⟩

/-- For LapsedLeaseReturnsOrMerges: no other notice of the source, one before the claimed place and one behind it. -/
theorem test_witness_lapse :
    (noticing [notice 1 3 (some ⟨0, 9⟩)]).resetLow = false ∧
    (noticing [notice 1 3 (some ⟨0, 9⟩)]).notices[(0 : Fin 16).val]? = some (notice 1 3 (some ⟨0, 9⟩)) ∧
    (∀ m ∈ [notice 1 3 (some ⟨0, 9⟩)], m.claim = none → m.source ≠ (notice 1 3 none).source) ∧
    ([notice 1 3 (some ⟨0, 9⟩), notice 1 4 none][1]? = some (notice 1 4 none) ∧ (0 : Fin 16).val < 1) ∧
    ([notice 1 4 none, notice 1 3 (some ⟨0, 9⟩)][0]? = some (notice 1 4 none) ∧ 0 < (1 : Fin 16).val) ∧
    ∀ (k : Nat) (l : Notice), [notice 1 3 (some ⟨0, 9⟩), notice 1 4 none][k]? = some l → l.claim = none →
      l.source = (notice 1 3 none).source → 1 ≤ k := by
  refine ⟨rfl, rfl, by decide, ⟨rfl, by decide⟩, ⟨rfl, by decide⟩, ?_⟩
  intro k l h hc _
  rcases k with _ | k
  · cases h; cases hc
  · omega

/-- The busy part with a command waiting. -/
def waitingWith (c : Instr) : State := { issuedAt 0 with pending := [c] }

/-- For the statements that a step keeps an invariant: a part with a record ISSUED meets each, and steps. -/
theorem test_witness_invariants :
    (waitingWith (.branchResponse 0 8 0 0 [])).RoutesSound ∧
    ((waitingWith (.branchResponse 0 8 0 0 [])).TrunkSound ∧ (waitingWith (.branchResponse 0 8 0 0 [])).FramesBuilt) ∧
    (waitingWith (.branchResponse 0 8 0 0 [])).BudgetSound ∧ (waitingWith (.branchResponse 0 8 0 0 [])).RecordsSound ∧
    ((waitingWith (.branchResponse 0 8 0 0 [])).BranchStatesSound ∧
      (waitingWith (.branchResponse 0 8 0 0 [])).IssueQueuesSound ∧
      (waitingWith (.branchResponse 0 8 0 0 [])).TagsSound) ∧
    (waitingWith (.branchResponse 0 8 0 0 [])).SettingsSound ∧
    ((waitingWith (.branchResponse 0 8 0 0 [])).NoticesSound ∧ (waitingWith (.branchResponse 0 8 0 0 [])).AttnSound) ∧
    step (waitingWith (.branchResponse 0 8 0 0 [])) = .next (after (.branchResponse 0 8 0 0 []) (issuedAt 0)) := by
  refine ⟨⟨test_witness_routes_unique, ?_, ?_⟩, by decide +kernel, by decide +kernel, by decide +kernel,
    by decide +kernel, by decide +kernel, by decide +kernel, rfl⟩
  · intro i r hr
    rw [(part_live hr).2]
    decide
  · intro h; cases h

/-- For the rules of the whole machine: a record that lives through a command, what it has in use, a write that moves a
generation, frames that arrive, and a branch beside another. -/
theorem test_witness_whole_machine :
    (exec (.branchResponse 0 8 0 0 []) (issuedAt 0) = .next (after (.branchResponse 0 8 0 0 []) (issuedAt 0)) ∧
      (issuedAt 0).record 0 = some (unlockRecord (.issued 0 (some 100)) 0) ∧
      (after (.branchResponse 0 8 0 0 []) (issuedAt 0)).record 0 = some (unlockRecord .queued 1)) ∧
    ((issuedAt 0).profileInUse 1 = true ∧ (issuedAt 0).recipeInUse 12 = true ∧ Instr.profileWrite ≠ .hardReset ∧
      Instr.profileWrite ≠ .softResetFull) ∧
    (exec .routeDelete (asking part 0x12 [20]) = .next (after .routeDelete (asking part 0x12 [20])) ∧
      (asking part 0x12 [indexByte (20 : Fin 128)]).Executes 0x12 [indexByte (20 : Fin 128)] ∧
      (after .routeDelete (asking part 0x12 [20])).route 20 = ⟨0, none⟩) ∧
    (let record := otherRoute.record 0 0 0
     (asking part 0x10 (indexByte (127 : Fin 128) :: record)).Executes 0x10 (indexByte (127 : Fin 128) :: record)) ∧
    (part.resetLow = false ∧ exec (.hold 1) part = .next (after (.hold 1) part)) ∧
    exec (.branchFrame 0 []) part = .next (after (.branchFrame 0 []) part) ∧
    ((1 : Fin 4) ≠ 0 ∧ exec (.schedulerIssue 1) (queuedAt 0) = .next (after (.schedulerIssue 1) (queuedAt 0)) ∧
      (queuedAt 0).IssueQueuesSound) :=
  ⟨⟨exec_after _ _, by decide +kernel, by decide +kernel⟩, by decide +kernel,
   ⟨exec_after _ _, ⟨rfl, 9, rfl⟩, by decide +kernel⟩, ⟨rfl, 9, rfl⟩, ⟨rfl, exec_after _ _⟩, exec_after _ _, by decide, exec_after _ _, by decide +kernel⟩

/-- For ReflectionAndLinearityOfTheCheck: a position of a register, and two sequences of one length. -/
theorem test_witness_check : 0 < 24 ∧ ([1, 2] : List Byte).length = ([3, 4] : List Byte).length := by decide

end Sys2Proof.Tests
end

section
/-! The check profiles (sections 2.2 to 2.6): the counts the part derives, the layout of a PROFILE_WRITE, and the
algebra of the check register; the statements about them are settled at the end of each part. -/

namespace Sys2Proof.Machine

/-! ### Counts and in-use conditions -/

theorem countWhere_ne_zero {n : Nat} {p : Fin n → Bool} : countWhere p ≠ 0 ↔ ∃ i, p i = true := by
  simp [countWhere, List.countP_eq_zero]

theorem countWhere_eq_length_filter {n : Nat} (p : Fin n → Bool) :
    countWhere p = ((List.finRange n).filter p).length :=
  List.countP_eq_length_filter

theorem State.recordIs_eq_any (s : State) (p : Record → Bool) (i : Fin 32) : s.recordIs p i = (s.record i).any p := by
  unfold State.recordIs
  cases s.record i <;> rfl

theorem State.recordIs_iff {s : State} {p : Record → Bool} {i : Fin 32} :
    s.recordIs p i = true ↔ ∃ r, s.record i = some r ∧ p r = true := by
  rw [State.recordIs_eq_any, Option.any_eq_true]

theorem TagRecord.coolsProfile_iff {p : Fin 4} {r : TagRecord} :
    r.coolsProfile p = true ↔ ∃ a d, r = .cooling p a d := by
  cases r <;> simp [TagRecord.coolsProfile]

theorem State.profileRecords_ne_zero {s : State} {p : Fin 4} :
    s.profileRecords p ≠ 0 ↔ ∃ i r, s.record i = some r ∧ r.snapshot.profile = p := by
  simp [State.profileRecords, countWhere_ne_zero, State.recordIs_iff]

theorem State.profileCooling_ne_zero {s : State} {p : Fin 4} :
    s.profileCooling p ≠ 0 ↔ ∃ b n a d, (s.branch b).tag n = .cooling p a d := by
  simp only [← TagRecord.coolsProfile_iff, ← countWhere_ne_zero (n := 16)]
  simp [State.profileCooling, List.sum_eq_zero_iff]

theorem State.recipeRecords_ne_zero {s : State} {k : Fin 32} :
    s.recipeRecords k ≠ 0 ↔ ∃ i r, s.record i = some r ∧ r.snapshot.recipe = some k := by
  simp [State.recipeRecords, countWhere_ne_zero, State.recordIs_iff]

/-- Settles O20: the counts of R20 differ from 0 exactly where a record or a COOLING tag is counted. -/
theorem inUseMeansALiveRecordOrACoolingTag : Obligations.InUseMeansALiveRecordOrACoolingTag := by
  intro s
  constructor
  · intro p
    rw [← State.profileRecords_ne_zero, ← State.profileCooling_ne_zero]
    simp [State.profileInUse]
  · intro k
    rw [← State.recipeRecords_ne_zero]
    simp [State.recipeInUse]

/-! ### Management requests on one index, and of a wrong length -/

/-- A request whose payload has no length of its code is answered BAD_REQUEST (R160). -/
theorem State.carryOut_of_misfit {s : State} {code : Byte} {payload : List Byte} (h : s.Executes code payload)
    (misfit : lengthAccepted code payload = false) (act : List Byte → State → State) :
    s.carryOut code act = s.answer .badRequest [] := by
  obtain ⟨low, tag, run⟩ := h
  simp [State.carryOut, low, run, misfit]

theorem onIndex_of_lt {n : Nat} {b : Byte} {i : Fin n} (h : b.toNat = i.val) (act : Fin n → State → State)
    (s : State) : onIndex n act [b] s = act i s := by
  simp [onIndex, index?_eq_some.2 h]

theorem onIndex_of_le {n : Nat} {b : Byte} (h : n ≤ b.toNat) (act : Fin n → State → State) (s : State) :
    onIndex n act [b] s = s.answer .badValue [] := by
  simp [onIndex, index?_eq_none.2 h]

theorem exec_profileWrite (s : State) : exec .profileWrite s = .next (s.carryOut 0x20 profileWrite) := rfl

theorem exec_profileRead (s : State) : exec .profileRead s = .next (s.carryOut 0x21 (onIndex 4 profileRead)) := rfl

/-! ### The fields of a PROFILE_WRITE -/

theorem Width.byte_of_toNat {b : Byte} {w : Width} (h : b.toNat = w.bits) : b = BitVec.ofNat 8 w.bits := by
  rw [← h, BitVec.ofNat_toNat, BitVec.setWidth_eq]

theorem width?_eq_some {b : Byte} {w : Width} : width? b = some w ↔ b.toNat = w.bits := by
  constructor
  · intro h
    unfold width? at h
    split_ifs at h <;> (cases h; subst b; rfl)
  · intro h
    rw [Width.byte_of_toNat h]
    cases w <;> rfl

theorem Width.mem_of_toNat {b : Byte} {w : Width} (h : b.toNat = w.bits) : b ∈ ([8, 16, 24, 32] : List Byte) := by
  rw [Width.byte_of_toNat h]
  cases w <;> decide

/-- Tests 2 to 5 of R21: a PROFILE_WRITE carries a profile exactly where its width byte names a width, its flags are
at most 3, and the profile is sound at that width. -/
theorem readProfile_eq_some {width flags p3 p2 p1 p0 i3 i2 i1 i0 x3 x2 x1 x0 : Byte} {c : CheckProfile} :
    readProfile [width, flags, p3, p2, p1, p0, i3, i2, i1, i0, x3, x2, x1, x0] = some c ↔
      ∃ w : Width, width.toNat = w.bits ∧ flags.toNat ≤ 3 ∧ c.Sound ∧
        c = ⟨w, p3 ++ p2 ++ p1 ++ p0, i3 ++ i2 ++ i1 ++ i0, flags.getLsbD 0, flags.getLsbD 1,
          x3 ++ x2 ++ x1 ++ x0⟩ := by
  simp only [readProfile, ofBytes_four, Option.bind_eq_bind, Option.bind_eq_some_iff, width?_eq_some,
    Option.guard_eq_some', Bool.and_eq_true, decide_eq_true_eq, exists_const, Option.some.injEq]
  constructor
  · rintro ⟨w, named, ⟨⟨⟨⟨low, hp⟩, hi⟩, hx⟩, odd⟩, rfl⟩
    exact ⟨w, named, by omega, ⟨hp, hi, hx, odd⟩, rfl⟩
  · rintro ⟨w, named, low, ⟨hp, hi, hx, odd⟩, rfl⟩
    exact ⟨w, named, ⟨⟨⟨⟨by omega, hp⟩, hi⟩, hx⟩, odd⟩, rfl⟩

theorem profileWrite_of_fields {index : Byte} {record : List Byte} {p : Fin 4} {c : CheckProfile}
    (at_p : index.toNat = p.val) (fields : readProfile record = some c) (s : State) :
    profileWrite (index :: record) s =
      if s.profileInUse p then s.answer .inUse [] else (s.setProfile p c).answer .done [] := by
  simp [profileWrite, index?_eq_some.2 at_p, fields]

theorem profileWrite_of_bad_field {index : Byte} {record : List Byte}
    (bad : 3 < index.toNat ∨ ∀ c, readProfile record ≠ some c) (s : State) :
    profileWrite (index :: record) s = s.answer .badValue [] := by
  rcases bad with outside | unreadable
  · simp [profileWrite, index?_eq_none.2 outside]
  · simp [profileWrite, Option.eq_none_iff_forall_ne_some.2 unreadable]

/-! ### The reply of a PROFILE_READ -/

theorem CheckProfile.bytes_eq (c : CheckProfile) :
    c.bytes = [BitVec.ofNat 8 c.width.bits, (if c.reflectOut then 2 else 0) + if c.reflectIn then 1 else 0]
      ++ bytesOf c.polynomial ++ bytesOf c.initial ++ bytesOf c.finalXor := by
  have flags : BitVec.ofNat 8 (c.reflectIn.toNat + 2 * c.reflectOut.toNat) =
      (if c.reflectOut then 2 else 0) + if c.reflectIn then 1 else 0 := by
    cases c.reflectIn <;> cases c.reflectOut <;> rfl
  simp only [CheckProfile.bytes, flags, toBytes_four, bytesOf]

theorem State.profileRecords_eq_length (s : State) (p : Fin 4) :
    s.profileRecords p =
      ((List.finRange 32).filter fun i => (s.record i).any fun r => r.snapshot.profile == p).length := by
  simp only [State.profileRecords, countWhere_eq_length_filter, ← State.recordIs_eq_any]

theorem State.profileCooling_eq_sum (s : State) (p : Fin 4) :
    s.profileCooling p = ((List.finRange 4).map fun b =>
      ((List.finRange 16).filter fun n => ((s.branch b).tag n).coolsProfile p).length).sum := by
  simp only [State.profileCooling, countWhere_eq_length_filter]

/-- Settles O21: PROFILE_WRITE by what its fields spell, PROFILE_READ by its reply, either by its payload length. -/
theorem profileWriteAndRead : Obligations.ProfileWriteAndRead := by
  refine ⟨⟨?write, ?read⟩, ?lengths⟩
  case write =>
    intro s index width flags p3 p2 p1 p0 i3 i2 i1 i0 x3 x2 x1 x0 run polynomial initial finalXor
    rw [exec_profileWrite, State.carryOut_of_executes run rfl]
    refine ⟨fun bad => ?_, fun p w at_p named low hp hi hx odd => ?_⟩
    · suffices unreadable : 3 < index.toNat ∨
          ∀ c, readProfile [width, flags, p3, p2, p1, p0, i3, i2, i1, i0, x3, x2, x1, x0] ≠ some c by
        rw [profileWrite_of_bad_field unreadable]
      refine bad.imp_right fun bad c readable => ?_
      obtain ⟨w, named, low, ⟨hp, hi, hx, odd⟩, rfl⟩ := readProfile_eq_some.1 readable
      rw [named] at bad
      rcases bad with unlisted | high | big | big | big | even
      · exact unlisted (Width.mem_of_toNat named)
      · omega
      · exact absurd hp (Nat.not_lt.2 big)
      · exact absurd hi (Nat.not_lt.2 big)
      · exact absurd hx (Nat.not_lt.2 big)
      · exact Bool.false_ne_true (even.symm.trans odd)
    · rw [profileWrite_of_fields at_p (readProfile_eq_some.2 ⟨w, named, low, ⟨hp, hi, hx, odd⟩, rfl⟩)]
      constructor <;> intro use <;> simp [use, polynomial, initial, finalXor]
  case read =>
    intro s index run
    rw [exec_profileRead, State.carryOut_of_executes run rfl]
    refine ⟨fun outside => by rw [onIndex_of_le outside], fun p at_p => ?_⟩
    rw [onIndex_of_lt at_p, profileRead, indexByte_of_toNat at_p, CheckProfile.bytes_eq,
      State.profileRecords_eq_length, State.profileCooling_eq_sum]
    rfl
  case lengths =>
    intro s payload
    constructor <;> intro run misfit
    · rw [exec_profileWrite, State.carryOut_of_misfit run (by simpa [lengthAccepted] using misfit)]
    · rw [exec_profileRead, State.carryOut_of_misfit run (by simpa [lengthAccepted] using misfit)]

/-! ### The check register -/

theorem getLsbD_reflect {w : Nat} (x : BitVec w) {i : Nat} (h : i < w) :
    (reflect x).getLsbD i = x.getLsbD (w - 1 - i) := by
  rw [reflect, BitVec.getLsbD_reverse, BitVec.getMsbD_eq_getLsbD, decide_eq_true h, Bool.true_and]

theorem remainder_cons {w : Nat} (p : CheckParams w) (b : Byte) (bytes : List Byte) :
    remainder p (b :: bytes) =
      remainder { p with initial := enterByte p.polynomial p.initial (if p.reflectIn then reflect b else b) } bytes :=
  rfl

/-- The remainder depends on the polynomial, the initial value and input reflection only. -/
theorem remainder_congr {w : Nat} {p q : CheckParams w} (polynomial : p.polynomial = q.polynomial)
    (initial : p.initial = q.initial) (reflectIn : p.reflectIn = q.reflectIn) (bytes : List Byte) :
    remainder p bytes = remainder q bytes := by
  simp only [remainder, polynomial, initial, reflectIn]

/-- Input reflection acts on each byte before it enters. -/
theorem remainder_reflectIn {w : Nat} (polynomial initial x : BitVec w) (out : Bool) (bytes : List Byte) :
    remainder ⟨polynomial, initial, true, out, x⟩ bytes =
      remainder ⟨polynomial, initial, false, out, x⟩ (bytes.map reflect) := by
  simp [remainder, List.foldl_map]

/-- One bit shifts the register and XORs the polynomial in where it differs from the top bit (section 2.3). -/
theorem enterBit_eq {w : Nat} (polynomial r : BitVec w) (bit : Bool) :
    enterBit polynomial r bit = r <<< 1 ^^^ if (bit ^^ r.msb) = true then polynomial else 0 := by
  unfold enterBit
  cases bit <;> cases r.msb <;> simp

theorem ite_xor_ite {w : Nat} (x : BitVec w) (c d : Bool) :
    ((if c = true then x else 0) ^^^ if d = true then x else 0) = if (c ^^ d) = true then x else 0 := by
  cases c <;> cases d <;> simp

theorem enterBit_xor {w : Nat} (polynomial r q : BitVec w) (a b : Bool) :
    enterBit polynomial r a ^^^ enterBit polynomial q b = enterBit polynomial (r ^^^ q) (a ^^ b) := by
  have differs : ((a ^^ b) ^^ (r ^^^ q).msb) = ((a ^^ r.msb) ^^ (b ^^ q.msb)) := by
    rw [BitVec.msb_xor, Bool.xor_assoc, Bool.xor_assoc, Bool.xor_left_comm b]
  rw [enterBit_eq, enterBit_eq, enterBit_eq, differs, ← ite_xor_ite polynomial (a ^^ r.msb),
    BitVec.shiftLeft_xor_distrib]
  ac_rfl

theorem foldl_enterBit_xor {w : Nat} (polynomial : BitVec w) (a b : Byte) (places : List Nat) (r q : BitVec w) :
    places.foldl (fun reg i => enterBit polynomial reg (a.getLsbD i)) r ^^^
        places.foldl (fun reg i => enterBit polynomial reg (b.getLsbD i)) q =
      places.foldl (fun reg i => enterBit polynomial reg ((a ^^^ b).getLsbD i)) (r ^^^ q) := by
  induction places generalizing r q with
  | nil => rfl
  | cons i places ih => simp only [List.foldl_cons, ih, enterBit_xor, BitVec.getLsbD_xor]

theorem enterByte_xor {w : Nat} (polynomial r q : BitVec w) (a b : Byte) :
    enterByte polynomial r a ^^^ enterByte polynomial q b = enterByte polynomial (r ^^^ q) (a ^^^ b) :=
  foldl_enterBit_xor polynomial a b _ r q

theorem remainder_xor {w : Nat} (polynomial i j : BitVec w) {xs ys : List Byte} (same : xs.length = ys.length) :
    remainder ⟨polynomial, i, false, false, 0⟩ xs ^^^ remainder ⟨polynomial, j, false, false, 0⟩ ys =
      remainder ⟨polynomial, i ^^^ j, false, false, 0⟩ (List.zipWith (· ^^^ ·) xs ys) := by
  induction xs generalizing i j ys with
  | nil =>
    obtain rfl := List.eq_nil_of_length_eq_zero same.symm
    rfl
  | cons x xs ih =>
    cases ys with
    | nil => simp at same
    | cons y ys =>
      have shorter : xs.length = ys.length := by simpa using same
      simp only [remainder_cons, List.zipWith_cons_cons, Bool.false_eq_true, if_false, ih _ _ shorter, enterByte_xor]

/-- Settles O60: reflection by the definitions of the remainder and the check value, linearity bit by bit. -/
theorem reflectionAndLinearityOfTheCheck : Obligations.ReflectionAndLinearityOfTheCheck := by
  refine ⟨⟨fun w x i h => getLsbD_reflect x h, fun w polynomial initial finalXor reflectOut bytes => ?_⟩,
    fun w polynomial i j xs ys same => remainder_xor polynomial i j same⟩
  have plain (out : Bool) : remainder ⟨polynomial, initial, false, out, finalXor⟩ bytes =
      remainder ⟨polynomial, initial, false, false, 0⟩ bytes := remainder_congr rfl rfl rfl bytes
  refine ⟨?_, ?_, ?_⟩
  · simp only [checkValue, remainder_reflectIn]
  · simp [checkValue, plain]
  · simp [checkValue, plain]

end Sys2Proof.Machine
end

section
/-! The Route Table's management requests (sections 3.3 to 3.5): the route entry record read back from its bytes, the
conflicts of a ROUTE_WRITE, and what each request does by the state of the entry at its index. -/

namespace Sys2Proof.Machine

/-! ### The fields of a route entry record -/

theorem slotChoice?_eq_some {b : Byte} {k : Option (Fin 32)} : slotChoice? b = some k ↔ b = slotChoiceByte k := by
  constructor
  · intro named
    unfold slotChoice? at named
    split at named
    next direct => cases named; exact direct
    next =>
      obtain ⟨i, at_i, rfl⟩ := Option.map_eq_some_iff.1 named
      exact (indexByte_of_toNat (index?_eq_some.1 at_i)).symm
  · rintro rfl
    exact slotChoice?_slotChoiceByte k

theorem indexByte_toNat_lt {n : Nat} (h : n ≤ 256) (i : Fin n) : (indexByte i).toNat < n := by
  rw [indexByte_toNat h]
  exact i.isLt

theorem slotChoiceByte_toNat_le {k : Option (Fin 32)} (named : slotChoiceByte k ≠ 0xFF) :
    (slotChoiceByte k).toNat ≤ 31 := by
  cases k with
  | none => exact absurd rfl named
  | some k => exact Nat.le_of_lt_succ (indexByte_toNat_lt (by decide) k)

theorem localAddressOk_iff {a : Byte} : localAddressOk a = true ↔ 1 ≤ a.toNat ∧ a.toNat ≤ 126 := by
  simp [localAddressOk]

/-- The permitted-ops byte is below 8, and its bits are the three permissions. -/
theorem RouteConfig.opsByte_bits (c : RouteConfig) :
    c.opsByte.toNat < 8 ∧ c.opsByte.getLsbD 0 = c.permitRead ∧ c.opsByte.getLsbD 1 = c.permitWrite ∧
      c.opsByte.getLsbD 2 = c.permitExchange := by
  unfold RouteConfig.opsByte
  generalize c.permitRead = read, c.permitWrite = write, c.permitExchange = exchange
  revert read write exchange
  decide

theorem opsByte_of_bits {ops : Byte} (low : ops.toNat < 8) :
    BitVec.ofNat 8 ((ops.getLsbD 0).toNat + 2 * (ops.getLsbD 1).toNat + 4 * (ops.getLsbD 2).toNat) = ops := by
  revert ops
  decide +kernel

/-- A record is read as a configuration exactly where it carries it and the two fields with values out of range, the
local address and the timeout, are in range (R11). -/
theorem readRoute_eq_some {record : List Byte} {c : RouteConfig} :
    readRoute record = some c ↔
      1 ≤ c.localAddress.toNat ∧ c.localAddress.toNat ≤ 126 ∧ c.timeout ≠ 0 ∧
      ∃ b0 b15 b16, record = c.record b0 b15 b16 := by
  constructor
  · intro readable
    unfold readRoute at readable
    split at readable
    next b0 a1 a0 br la ops rr rw rx pr t1 t0 rl ql sev b15 b16 =>
      simp only [Option.bind_eq_bind, Option.bind_eq_some_iff, index?_eq_some, slotChoice?_eq_some,
        Option.guard_eq_some', Bool.and_eq_true, localAddressOk_iff, decide_eq_true_eq, bne_iff_ne, exists_const,
        Option.some.injEq] at readable
      obtain ⟨branch, at_branch, ⟨⟨⟨low, high⟩, ops_low⟩, timed⟩, recipeRead, rfl, recipeWrite, rfl, recipeExchange,
        rfl, profile, at_profile, retry, at_retry, severity, at_severity, rfl⟩ := readable
      refine ⟨low, high, timed, b0, b15, b16, ?_⟩
      simp only [RouteConfig.record, RouteConfig.opsByte, extractLsb'_append_high, extractLsb'_append_low,
        opsByte_of_bits ops_low, indexByte_of_toNat at_branch, indexByte_of_toNat at_profile,
        indexByte_of_toNat at_retry, indexByte_of_toNat at_severity]
    next => cases readable
  · rintro ⟨low, high, timed, b0, b15, b16, rfl⟩
    obtain ⟨ops_low, read, write, exchange⟩ := c.opsByte_bits
    have addressed := localAddressOk_iff.2 ⟨low, high⟩
    have timed := bne_iff_ne.2 timed
    simp only [readRoute, RouteConfig.record, index?_indexByte, slotChoice?_slotChoiceByte, append_extractLsb',
      read, write, exchange, addressed, ops_low, timed, Nat.reduceLeDiff, decide_true, Bool.and_true, guard_true,
      Option.bind_eq_bind, Option.bind_some, Option.pure_def]

theorem RouteEntry.bytes_of_empty {e : RouteEntry} (empty : e.live = none) :
    e.bytes = [0, 0, 0, 0, 0, 0, 0xFF, 0xFF, 0xFF, 0, 0, 0, 0, 0, 0, 0, e.generation] := by
  simp only [RouteEntry.bytes, empty]

theorem RouteEntry.bytes_of_live {e : RouteEntry} {r : LiveRoute} (live : e.live = some r) :
    e.bytes = r.config.record (if r.quarantined then 2 else 1) r.failures e.generation := by
  simp only [RouteEntry.bytes, live, toBytes_two, RouteConfig.record, List.cons_append, List.nil_append]

/-! ### The conflicts of a ROUTE_WRITE -/

theorem State.otherRoute_iff {s : State} {i : Fin 128} {p : RouteConfig → Bool} :
    s.otherRoute i p = true ↔ ∃ j r, j ≠ i ∧ (s.route j).live = some r ∧ p r.config = true := by
  simp only [State.otherRoute, List.any_eq_true, List.mem_finRange, true_and, Bool.and_eq_true, bne_iff_ne]
  refine exists_congr fun j => ?_
  cases (s.route j).live <;> simp

/-- Tests 3 to 5 of R32 as one: the own address, or an entry that shares a key with the record. -/
theorem State.routeConflict_iff {s : State} {i : Fin 128} {c : RouteConfig} :
    s.routeConflict i c = true ↔
      c.globalAddress = s.ownAddress ∨ ∃ j r, j ≠ i ∧ (s.route j).live = some r ∧
        (r.config.globalAddress = c.globalAddress ∨
          (r.config.branch = c.branch ∧ r.config.localAddress = c.localAddress)) := by
  simp only [State.routeConflict, Bool.or_eq_true, beq_iff_eq, State.otherRoute_iff, Bool.and_eq_true, or_assoc,
    ← exists_or, ← and_or_left]

/-! ### What the requests do -/

theorem routeWrite_of_fields {index : Byte} {record : List Byte} {i : Fin 128} {c : RouteConfig}
    (at_i : index.toNat = i.val) (fields : readRoute record = some c) (s : State) :
    routeWrite (index :: record) s =
      if s.routeConflict i c then s.answer .conflict []
      else (s.setRoute i ⟨(s.route i).generation + 1, some ⟨c, false, 0⟩⟩).answer .done
        [(s.route i).generation + 1] := by
  simp only [routeWrite, index?_eq_some.2 at_i, fields]

theorem routeWrite_of_bad_field {index : Byte} {record : List Byte}
    (bad : 127 < index.toNat ∨ ∀ c, readRoute record ≠ some c) (s : State) :
    routeWrite (index :: record) s = s.answer .badValue [] := by
  rcases bad with outside | unreadable
  · simp [routeWrite, index?_eq_none.2 outside]
  · simp [routeWrite, Option.eq_none_iff_forall_ne_some.2 unreadable]

theorem routeDelete_of_empty {s : State} {i : Fin 128} (empty : (s.route i).live = none) :
    routeDelete i s = s.answer .notFound [] := by
  simp only [routeDelete, empty]

theorem routeDelete_of_live {s : State} {i : Fin 128} {r : LiveRoute} (live : (s.route i).live = some r) :
    routeDelete i s = (s.setRoute i ⟨(s.route i).generation + 1, none⟩).answer .done
      [(s.route i).generation + 1] := by
  simp only [routeDelete, live]

theorem routeReinstate_of_empty {s : State} {i : Fin 128} (empty : (s.route i).live = none) :
    routeReinstate i s = s.answer .notFound [] := by
  simp only [routeReinstate, empty]

theorem routeReinstate_of_live {s : State} {i : Fin 128} {r : LiveRoute} (live : (s.route i).live = some r) :
    routeReinstate i s = (s.setRoute i ⟨(s.route i).generation, some ⟨r.config, false, 0⟩⟩).answer .done
      [if r.quarantined then 2 else 1] := by
  simp only [routeReinstate, live, State.setLive]

/-- A request on one index of a table, where the Agent executes it with a payload of its one byte. -/
theorem State.carryOut_onIndex {s : State} {code index : Byte} {n : Nat} (run : s.Executes code [index])
    (fits : lengthAccepted code [index] = true) (act : Fin n → State → State) :
    (n ≤ index.toNat → s.carryOut code (onIndex n act) = s.answer .badValue []) ∧
    ∀ i : Fin n, index.toNat = i.val → s.carryOut code (onIndex n act) = act i s := by
  rw [State.carryOut_of_executes run fits]
  exact ⟨fun outside => onIndex_of_le outside act s, fun i at_i => onIndex_of_lt at_i act s⟩

theorem exec_routeWrite (s : State) : exec .routeWrite s = .next (s.carryOut 0x10 routeWrite) := rfl

theorem exec_routeRead (s : State) : exec .routeRead s = .next (s.carryOut 0x11 (onIndex 128 routeRead)) := rfl

theorem exec_routeDelete (s : State) : exec .routeDelete s = .next (s.carryOut 0x12 (onIndex 128 routeDelete)) := rfl

theorem exec_routeReinstate (s : State) :
    exec .routeReinstate s = .next (s.carryOut 0x13 (onIndex 128 routeReinstate)) := rfl

/-- Settles O16: a field out of range stands in no configuration's record; in range, the conflict tests decide. -/
theorem routeWriteTestsThenReplacesTheEntry : Obligations.RouteWriteTestsThenReplacesTheEntry := by
  refine ⟨?badValue, ?inRange⟩
  case badValue =>
    intro s index b0 a1 a0 branch la ops rr rw' rx profile t1 t0 retry limit severity b15 b16 run bad
    rw [exec_routeWrite, State.carryOut_of_executes run rfl]
    suffices unreadable : 127 < index.toNat ∨ ∀ c, readRoute [b0, a1, a0, branch, la, ops, rr, rw', rx, profile,
        t1, t0, retry, limit, severity, b15, b16] ≠ some c by
      rw [routeWrite_of_bad_field unreadable]
    refine bad.imp_right fun bad c readable => ?_
    obtain ⟨low, high, timed, _, _, _, carried⟩ := readRoute_eq_some.1 readable
    simp only [RouteConfig.record, List.cons.injEq] at carried
    obtain ⟨-, -, -, rfl, rfl, rfl, rfl, rfl, rfl, rfl, rfl, rfl, rfl, -, rfl, -⟩ := carried
    rcases bad with far | zero | far | far | ⟨b, listed, far, named⟩ | far | ⟨t1_zero, t0_zero⟩ | far | far
    · exact absurd (indexByte_toNat_lt (by decide) c.branch) (by omega)
    · simp [zero] at low
    · omega
    · exact absurd c.opsByte_bits.1 (by omega)
    · simp only [List.mem_cons, List.not_mem_nil, or_false] at listed
      obtain rfl | rfl | rfl := listed <;> exact absurd (slotChoiceByte_toNat_le named) (by omega)
    · exact absurd (indexByte_toNat_lt (by decide) c.profile) (by omega)
    · apply timed
      rw [← append_extractLsb' c.timeout, t1_zero, t0_zero]
      rfl
    · exact absurd (indexByte_toNat_lt (by decide) c.retryLimit) (by omega)
    · exact absurd (indexByte_toNat_lt (by decide) c.alertSeverity) (by omega)
  case inRange =>
    intro s i c b0 b15 b16 run low high timed
    have readable := readRoute_eq_some.2 ⟨low, high, timed, b0, b15, b16, rfl⟩
    rw [exec_routeWrite, State.carryOut_of_executes run rfl,
      routeWrite_of_fields (indexByte_toNat (by decide) i) readable]
    refine ⟨fun conflict => ?_, fun own others => ?_⟩
    · rw [if_pos (State.routeConflict_iff.2 conflict)]
    · rw [if_neg]
      intro conflict
      obtain same | ⟨j, r, other, live, address | place⟩ := State.routeConflict_iff.1 conflict
      · exact own same
      · exact (others j r other live).1 address
      · exact (others j r other live).2 place

/-- Settles O17: each request by its index, and in range by whether the entry there is EMPTY. -/
theorem routeReadDeleteAndReinstate : Obligations.RouteReadDeleteAndReinstate := by
  refine ⟨?read, ?delete, ?reinstate⟩
  case read =>
    intro s index run
    obtain ⟨outside, inside⟩ := State.carryOut_onIndex run rfl routeRead
    refine ⟨fun far => by rw [exec_routeRead, outside far], fun i at_i => ?_⟩
    rw [exec_routeRead, inside i at_i, routeRead]
    exact ⟨fun empty => by rw [RouteEntry.bytes_of_empty empty],
      fun r live => by rw [RouteEntry.bytes_of_live live]⟩
  case delete =>
    intro s index run
    obtain ⟨outside, inside⟩ := State.carryOut_onIndex run rfl routeDelete
    refine ⟨fun far => by rw [exec_routeDelete, outside far], fun i at_i => ?_⟩
    rw [exec_routeDelete, inside i at_i]
    exact ⟨fun empty => by rw [routeDelete_of_empty empty], fun r live => by rw [routeDelete_of_live live]⟩
  case reinstate =>
    intro s index run
    obtain ⟨outside, inside⟩ := State.carryOut_onIndex run rfl routeReinstate
    refine ⟨fun far => by rw [exec_routeReinstate, outside far], fun i at_i => ?_⟩
    rw [exec_routeReinstate, inside i at_i]
    exact ⟨fun empty => by rw [routeReinstate_of_empty empty], fun r live => by rw [routeReinstate_of_live live]⟩

end Sys2Proof.Machine
end

section
/-! Recipes and constant blocks (sections 4.1 to 4.6): the two derived lengths of a recipe, the step record read back
from its bytes, the judging of the steps of a RECIPE_WRITE in their order, and what each request does. -/

namespace Sys2Proof.Machine

/-! ### The two derived lengths -/

theorem foldl_max_le_iff {l : List Nat} {a n : Nat} : l.foldl max a ≤ n ↔ a ≤ n ∧ ∀ x ∈ l, x ≤ n := by
  induction l generalizing a with
  | nil => simp
  | cons x l ih => rw [List.foldl_cons, ih, Nat.max_le, List.forall_mem_cons, and_assoc]

theorem neededLength_le_iff {steps : List Step} {n : Nat} :
    neededLength steps ≤ n ↔ ∀ step ∈ steps, step.needed ≤ n := by
  simp [neededLength, foldl_max_le_iff]

theorem Step.needed_le (step : Step) : step.needed ≤ 127 := by
  cases step with
  | issue op block offset slice capture => cases slice <;> simp only [Step.needed] <;> omega
  | await => exact Nat.zero_le _
  | pause => exact Nat.zero_le _

theorem captureTotal_cons (step : Step) (steps : List Step) :
    captureTotal (step :: steps) = step.fixedCapture + captureTotal steps := by
  simp [captureTotal]

theorem captureTotal_concat (steps : List Step) (step : Step) :
    captureTotal (steps ++ [step]) = captureTotal steps + step.fixedCapture := by
  simp [captureTotal]

/-- A sum may leave out the terms that are 0. -/
theorem sum_map_eq_sum_filterMap {α : Type} {f : α → Nat} {g : α → Option Nat} (h : ∀ a, f a = (g a).getD 0)
    (l : List α) : (l.map f).sum = (l.filterMap g).sum := by
  induction l with
  | nil => rfl
  | cons a l ih =>
    rw [List.map_cons, List.sum_cons, h, ih, List.filterMap_cons]
    cases g a <;> simp

/-! ### The fields of a step record -/

theorem extent?_eq_some {b : Byte} {e : Extent} : extent? b = some e ↔ b = e.byte := by
  constructor
  · intro named
    unfold extent? at named
    split at named
    next all => cases named; exact all
    next =>
      obtain ⟨n, at_n, rfl⟩ := Option.map_eq_some_iff.1 named
      exact (indexByte_of_toNat (index?_eq_some.1 at_n)).symm
  · rintro rfl
    exact extent?_byte e

theorem index?_eq_some_iff_eq_indexByte {n : Nat} (h : n ≤ 256) {b : Byte} {i : Fin n} :
    index? n b = some i ↔ b = indexByte i := by
  rw [index?_eq_some]
  exact ⟨fun at_i => (indexByte_of_toNat at_i).symm, fun named => named ▸ indexByte_toNat h i⟩

theorem Step.WrittenAs.length_eq {step : Step} {record : List Byte} (written : step.WrittenAs record) :
    record.length = 10 := by
  cases step with
  | issue => obtain ⟨_, _, _, _, rfl⟩ := written; rfl
  | await => obtain ⟨_, rfl⟩ := written; rfl
  | pause => obtain ⟨_, _, _, _, _, _, _, rfl⟩ := written; rfl

theorem readStep_of_writtenAs {step : Step} {record : List Byte} (written : step.WrittenAs record)
    (ranged : step.inRange = true) : readStep record = some step := by
  cases step with
  | issue =>
    obtain ⟨_, _, _, _, rfl⟩ := written
    simp [readStep, Op.ofCode_code, slotChoice?_slotChoiceByte, index?_indexByte, extent?_byte]
  | await op block index mask expected limit spacing =>
    obtain ⟨_, rfl⟩ := written
    obtain ⟨limited, spaced⟩ : limit ≠ 0#8 ∧ durationOk spacing = true := by simpa [Step.inRange] using ranged
    simp [readStep, Op.ofCode_code, slotChoice?_slotChoiceByte, index?_indexByte, append_extractLsb', limited, spaced]
  | pause =>
    obtain ⟨_, _, _, _, _, _, _, rfl⟩ := written
    rw [Step.inRange] at ranged
    simp [readStep, append_extractLsb', ranged]

/-- A record is read as a step exactly where the step is in range and the record carries it (R12). -/
theorem readStep_eq_some {record : List Byte} {step : Step} :
    readStep record = some step ↔ step.inRange = true ∧ step.WrittenAs record := by
  refine ⟨fun readable => ?_, fun ⟨ranged, written⟩ => readStep_of_writtenAs written ranged⟩
  unfold readStep at readable
  split at readable
  next k b1 b2 b3 b4 b5 b6 b7 b8 b9 =>
    split_ifs at readable with issue await pause
    · simp only [Option.bind_eq_bind, Option.bind_eq_some_iff, Op.ofCode_eq_some, slotChoice?_eq_some,
        index?_eq_some_iff_eq_indexByte (by decide : 64 ≤ 256), extent?_eq_some, Option.some.injEq] at readable
      obtain ⟨op, rfl, block, rfl, offset, rfl, slice, rfl, capture, rfl, rfl⟩ := readable
      exact ⟨rfl, b6, b7, b8, b9, by rw [issue]⟩
    · simp only [Option.bind_eq_bind, Option.bind_eq_some_iff, Op.ofCode_eq_some, slotChoice?_eq_some,
        index?_eq_some_iff_eq_indexByte (by decide : 64 ≤ 256), Option.guard_eq_some', exists_const,
        Option.some.injEq] at readable
      obtain ⟨op, rfl, block, rfl, index, rfl, ranged, rfl⟩ := readable
      exact ⟨ranged, b9, by rw [await, extractLsb'_append_high, extractLsb'_append_low]⟩
    · simp only [Option.bind_eq_bind, Option.bind_eq_some_iff, Option.guard_eq_some', exists_const,
        Option.some.injEq] at readable
      obtain ⟨ranged, rfl⟩ := readable
      exact ⟨ranged, b3, b4, b5, b6, b7, b8, b9, by rw [pause, extractLsb'_append_high, extractLsb'_append_low]⟩
  next => cases readable

theorem Step.writtenAs_bytes (step : Step) : step.WrittenAs step.bytes := by
  cases step with
  | issue => exact ⟨0, 0, 0, 0, rfl⟩
  | await => exact ⟨0, by rw [Step.bytes, toBytes_two]; rfl⟩
  | pause => exact ⟨0, 0, 0, 0, 0, 0, 0, by rw [Step.bytes, toBytes_two]; rfl⟩

/-! ### The steps of a RECIPE_WRITE, judged in their order -/

theorem stepRecords_add (m n : Nat) (bytes : List Byte) :
    stepRecords (m + n) bytes = stepRecords m bytes ++ stepRecords n (bytes.drop (10 * m)) := by
  induction m generalizing bytes with
  | zero => simp [stepRecords]
  | succ m ih =>
    rw [Nat.add_right_comm, stepRecords, ih, stepRecords, List.drop_drop, Nat.mul_succ, Nat.add_comm (10 * m)]
    rfl

/-- The first records cut are those the bytes begin with. -/
theorem exists_stepRecords_eq_append {records : List (List Byte)} (tens : ∀ r ∈ records, r.length = 10)
    {count : Nat} (fits : records.length ≤ count) (rest : List Byte) :
    ∃ more, stepRecords count (records.flatten ++ rest) = records ++ more := by
  obtain ⟨n, rfl⟩ := Nat.exists_eq_add_of_le fits
  rw [stepRecords_add, stepRecords_flatten records rest tens]
  exact ⟨_, rfl⟩

theorem loadSteps_of_good {record : List Byte} {step : Step} (readable : readStep record = some step) {total : Nat}
    (within : total + step.fixedCapture ≤ 64) (rest : List (List Byte)) (i : Nat) :
    loadSteps (record :: rest) i total =
      (loadSteps rest (i + 1) (total + step.fixedCapture)).map (step :: ·) := by
  simp only [loadSteps, readable, if_neg (Nat.not_lt.2 within)]
  cases loadSteps rest (i + 1) (total + step.fixedCapture) <;> rfl

theorem loadSteps_of_bad {record : List Byte} {total : Nat}
    (bad : ∀ step, readStep record = some step → 64 < total + step.fixedCapture) (rest : List (List Byte))
    (i : Nat) : loadSteps (record :: rest) i total = .error i := by
  cases readable : readStep record with
  | none => simp only [loadSteps, readable]
  | some step => simp only [loadSteps, readable, if_pos (bad step readable)]

/-- Records that carry good steps are loaded, and the judging goes on behind them with their count and captures. -/
theorem loadSteps_append {good : List Step} {before : List (List Byte)}
    (readable : List.Forall₂ (fun step record => readStep record = some step) good before) {total : Nat}
    (within : total + captureTotal good ≤ 64) (rest : List (List Byte)) (i : Nat) :
    loadSteps (before ++ rest) i total =
      (loadSteps rest (i + good.length) (total + captureTotal good)).map (good ++ ·) := by
  induction readable generalizing i total with
  | nil =>
    show loadSteps rest i total = (loadSteps rest i total).map id
    cases loadSteps rest i total <;> rfl
  | @cons step record good before readable _ ih =>
    rw [captureTotal_cons] at within
    rw [List.cons_append, loadSteps_of_good readable (by omega), ih (by omega), captureTotal_cons, List.length_cons,
      Nat.add_assoc i, Nat.add_comm 1, Nat.add_assoc total]
    cases loadSteps rest (i + (good.length + 1)) (total + (step.fixedCapture + captureTotal good)) <;> rfl

theorem forall₂_readStep {steps : List Step} {records : List (List Byte)}
    (written : List.Forall₂ Step.WrittenAs steps records) (ranged : ∀ step ∈ steps, step.inRange = true) :
    List.Forall₂ (fun step record => readStep record = some step) steps records := by
  simp only [readStep_eq_some]
  exact (List.forall₂_and_left _ _).2 ⟨ranged, written⟩

theorem length_of_forall₂_writtenAs {steps : List Step} {records : List (List Byte)}
    (written : List.Forall₂ Step.WrittenAs steps records) : ∀ r ∈ records, r.length = 10 := by
  induction written with
  | nil => simp
  | cons head _ ih => exact List.forall_mem_cons.2 ⟨head.length_eq, ih⟩

theorem length_flatten_of_tens {records : List (List Byte)} (tens : ∀ r ∈ records, r.length = 10) :
    records.flatten.length = 10 * records.length := by
  rw [List.length_flatten, List.map_congr_left tens]
  simp [Nat.mul_comm]

/-! ### RECIPE_WRITE -/

theorem exec_recipeWrite (s : State) : exec .recipeWrite s = .next (s.carryOut 0x30 recipeWrite) := rfl

theorem lengthAccepted_recipeWrite {index count : Byte} {records : List Byte}
    (fits : records.length = 10 * count.toNat) : lengthAccepted 0x30 (index :: count :: records) = true := by
  simp [lengthAccepted, fits]
  omega

theorem recipeWrite_of_bad_count {index count : Byte} (bad : 31 < index.toNat ∨ count = 0 ∨ 8 < count.toNat)
    (records : List Byte) (s : State) :
    recipeWrite (index :: count :: records) s = s.answer .badValue [0xFF] := by
  cases named : index? 32 index with
  | none => simp only [recipeWrite, named]
  | some k =>
    have inside : index.toNat ≤ 31 := by have := index?_eq_some.1 named; omega
    simp only [recipeWrite, named]
    exact if_pos (bad.resolve_left (Nat.not_lt.2 inside))

theorem recipeWrite_of_loadSteps {index count : Byte} {k : Fin 32} (at_k : index.toNat = k.val)
    (some_steps : 1 ≤ count.toNat) (few : count.toNat ≤ 8) (records : List Byte) (s : State) :
    (∀ i, loadSteps (stepRecords count.toNat records) 0 0 = .error i →
      recipeWrite (index :: count :: records) s = s.answer .badValue [BitVec.ofNat 8 i]) ∧
    ∀ steps, loadSteps (stepRecords count.toNat records) 0 0 = .ok steps →
      recipeWrite (index :: count :: records) s =
        if s.recipeInUse k then s.answer .inUse []
        else (s.setRecipe k (some ⟨steps, neededLength steps, captureTotal steps⟩)).answer .done
          [BitVec.ofNat 8 (neededLength steps), BitVec.ofNat 8 (captureTotal steps)] := by
  have counted : ¬(count = 0 ∨ 9 ≤ count.toNat) := by bv_omega
  constructor <;> intro result loaded <;>
    simp only [recipeWrite, index?_eq_some.2 at_k, if_neg counted, loaded, loadedRecipe]

/-- Settles O22: the derived lengths by induction on the steps; a RECIPE_WRITE by the good steps its records begin
with, which the judging passes one by one. -/
theorem recipeWriteTestsThenLoadsTheSlot : Obligations.RecipeWriteTestsThenLoadsTheSlot := by
  refine ⟨fun steps => ⟨fun n => ?needed, ?bound, ?captured⟩, ?refused, ?loaded⟩
  case needed =>
    rw [neededLength_le_iff]
    constructor
    · intro enough op block offset slice capture listed
      have := enough _ listed
      cases slice <;> exact this
    · intro enough step listed
      cases step with
      | issue op block offset slice capture =>
        have := enough _ _ _ _ _ listed
        cases slice <;> exact this
      | await => exact Nat.zero_le n
      | pause => exact Nat.zero_le n
  case bound => exact neededLength_le_iff.2 fun step _ => step.needed_le
  case captured =>
    apply sum_map_eq_sum_filterMap
    intro step
    cases step with
    | issue op block offset slice capture => cases capture <;> rfl
    | await => rfl
    | pause => rfl
  case refused =>
    intro s index count records run fits
    rw [exec_recipeWrite, State.carryOut_of_executes run (lengthAccepted_recipeWrite fits)]
    refine ⟨fun bad => by rw [recipeWrite_of_bad_count bad], ?_⟩
    rintro good before bad after inside few rfl ten written ranged within first_bad
    have tens : ∀ r ∈ before ++ [bad], r.length = 10 :=
      List.forall_mem_append.2 ⟨length_of_forall₂_writtenAs written, by simpa using ten⟩
    have regrouped : before.flatten ++ bad ++ after = (before ++ [bad]).flatten ++ after := by simp
    have room : (before ++ [bad]).length ≤ count.toNat := by
      rw [regrouped, List.length_append, length_flatten_of_tens tens] at fits
      omega
    obtain ⟨more, cut⟩ := exists_stepRecords_eq_append tens room after
    have judged : loadSteps (stepRecords count.toNat (before.flatten ++ bad ++ after)) 0 0 = .error good.length := by
      rw [regrouped, cut, List.append_assoc, loadSteps_append (forall₂_readStep written ranged) (by omega),
        List.singleton_append, loadSteps_of_bad, Nat.zero_add]
      · rfl
      · intro step readable
        obtain ⟨in_range, carried⟩ := readStep_eq_some.1 readable
        rw [Nat.zero_add, ← captureTotal_concat]
        exact first_bad step carried in_range
    have some_steps : 1 ≤ count.toNat := by
      rw [List.length_append] at room
      exact Nat.le_trans (Nat.le_add_left 1 _) room
    rw [(recipeWrite_of_loadSteps (k := ⟨index.toNat, by omega⟩) rfl some_steps few _ s).1 _ judged]
  case loaded =>
    intro s k steps records run some_steps few written ranged within
    have count : (BitVec.ofNat 8 steps.length).toNat = records.length := by
      rw [BitVec.toNat_ofNat, ← written.length_eq]
      omega
    have tens := length_of_forall₂_writtenAs written
    have judged : loadSteps (stepRecords records.length records.flatten) 0 0 = .ok steps := by
      have cut := stepRecords_flatten records [] tens
      have all_good := loadSteps_append (forall₂_readStep written ranged) (total := 0) (by omega) [] 0
      rw [List.append_nil] at cut all_good
      rw [cut, all_good]
      exact congrArg Except.ok (List.append_nil steps)
    rw [written.length_eq] at some_steps few
    rw [← count] at some_steps few judged
    rw [exec_recipeWrite, State.carryOut_of_executes run
        (lengthAccepted_recipeWrite (by rw [length_flatten_of_tens tens, count])),
      (recipeWrite_of_loadSteps (indexByte_toNat (by decide) k) some_steps few _ s).2 _ judged]
    constructor <;> intro use <;> simp [use]

/-! ### RECIPE_READ, RECIPE_CLEAR, CONST_WRITE and CONST_READ -/

theorem exec_recipeRead (s : State) : exec .recipeRead s = .next (s.carryOut 0x31 (onIndex 32 recipeRead)) := rfl

theorem exec_recipeClear (s : State) : exec .recipeClear s = .next (s.carryOut 0x32 (onIndex 32 recipeClear)) := rfl

theorem exec_constWrite (s : State) : exec .constWrite s = .next (s.carryOut 0x33 constWrite) := rfl

theorem exec_constRead (s : State) : exec .constRead s = .next (s.carryOut 0x34 (onIndex 32 constRead)) := rfl

theorem State.recipeRecords_eq_length (s : State) (k : Fin 32) :
    s.recipeRecords k =
      ((List.finRange 32).filter fun i => (s.record i).any fun r => r.snapshot.recipe == some k).length := by
  simp only [State.recipeRecords, countWhere_eq_length_filter, ← State.recordIs_eq_any]

theorem State.recipeRecord_of_empty {s : State} {k : Fin 32} (empty : s.recipe k = none) :
    s.recipeRecord k = [indexByte k, 0, 0, 0, BitVec.ofNat 8 (s.recipeRecords k), 0] := by
  simp only [State.recipeRecord, empty]

theorem State.recipeRecord_of_loaded {s : State} {k : Fin 32} {r : Recipe} (loaded : s.recipe k = some r) :
    s.recipeRecord k =
      [indexByte k, 1, BitVec.ofNat 8 r.neededLength, BitVec.ofNat 8 r.captureTotal,
        BitVec.ofNat 8 (s.recipeRecords k), BitVec.ofNat 8 r.steps.length] ++ (r.steps.map Step.bytes).flatten := by
  simp only [State.recipeRecord, loaded, List.flatMap_def]

theorem recipeClear_of_empty {s : State} {k : Fin 32} (empty : s.recipe k = none) :
    recipeClear k s = s.answer .notFound [] := by
  simp only [recipeClear, empty]

theorem recipeClear_of_loaded {s : State} {k : Fin 32} (loaded : s.recipe k ≠ none) :
    recipeClear k s = if s.recipeInUse k then s.answer .inUse [] else (s.setRecipe k none).answer .done [] := by
  obtain ⟨r, loaded⟩ := Option.ne_none_iff_exists'.1 loaded
  simp only [recipeClear, loaded]

theorem lengthAccepted_constWrite {payload : List Byte} :
    lengthAccepted 0x33 payload = true ↔ 1 ≤ payload.length ∧ payload.length ≤ 17 := by
  change (decide (1 ≤ payload.length) && decide (payload.length ≤ 17)) = true ↔ _
  simp

theorem constWrite_of_lt {index : Byte} {k : Fin 32} (at_k : index.toNat = k.val) (content : List Byte) (s : State) :
    constWrite (index :: content) s = (s.setBlock k content).answer .done [] := by
  simp only [constWrite, index?_eq_some.2 at_k]

theorem constWrite_of_le {index : Byte} (outside : 32 ≤ index.toNat) (content : List Byte) (s : State) :
    constWrite (index :: content) s = s.answer .badValue [] := by
  simp only [constWrite, index?_eq_none.2 outside]

/-- Settles O23: each request by its index, and in range by what the slot holds. -/
theorem recipesAndBlocksAreReadClearedAndWritten : Obligations.RecipesAndBlocksAreReadClearedAndWritten := by
  refine ⟨⟨⟨?bytes, fun s index => ⟨?read, ?clear⟩⟩, fun s index content => ⟨?write, ?block⟩⟩, ?lengths⟩
  case bytes =>
    intro opByte blockByte lengthByte step
    have op_code (op : Op) : op.code = opByte op := by cases op <;> rfl
    have block_byte (block : Option (Fin 32)) : slotChoiceByte block = blockByte block := by cases block <;> rfl
    have extent_byte (extent : Extent) : extent.byte = lengthByte extent := by cases extent <;> rfl
    refine ⟨step.writtenAs_bytes, ?_⟩
    cases step with
    | issue => simp only [Step.bytes, op_code, block_byte, extent_byte, indexByte]
    | await => rw [Step.bytes, toBytes_two, op_code, block_byte]; rfl
    | pause => rw [Step.bytes, toBytes_two]; rfl
  case read =>
    intro run
    obtain ⟨outside, inside⟩ := State.carryOut_onIndex run rfl recipeRead
    refine ⟨fun far => by rw [exec_recipeRead, outside far], fun k at_k => ?_⟩
    rw [exec_recipeRead, inside k at_k, recipeRead, ← State.recipeRecords_eq_length]
    exact ⟨fun empty => by rw [State.recipeRecord_of_empty empty, indexByte_of_toNat at_k],
      fun r loaded => by rw [State.recipeRecord_of_loaded loaded, indexByte_of_toNat at_k]⟩
  case clear =>
    intro run
    obtain ⟨outside, inside⟩ := State.carryOut_onIndex run rfl recipeClear
    refine ⟨fun far => by rw [exec_recipeClear, outside far], fun k at_k => ?_⟩
    rw [exec_recipeClear, inside k at_k]
    exact ⟨fun empty => by rw [recipeClear_of_empty empty],
      fun loaded used => by rw [recipeClear_of_loaded loaded, if_pos used],
      fun loaded unused => by rw [recipeClear_of_loaded loaded, if_neg (by simp [unused])]⟩
  case write =>
    intro run short
    have fits : 1 ≤ (index :: content).length ∧ (index :: content).length ≤ 17 :=
      ⟨Nat.le_add_left 1 _, Nat.succ_le_succ short⟩
    rw [exec_constWrite, State.carryOut_of_executes run (lengthAccepted_constWrite.2 fits)]
    exact ⟨fun far => by rw [constWrite_of_le far], fun k at_k => by rw [constWrite_of_lt at_k]⟩
  case block =>
    intro run
    obtain ⟨outside, inside⟩ := State.carryOut_onIndex run rfl constRead
    refine ⟨fun far => by rw [exec_constRead, outside far], fun k at_k => ?_⟩
    rw [exec_constRead, inside k at_k, constRead, indexByte_of_toNat at_k]
    rfl
  case lengths =>
    intro s payload
    refine ⟨?_, ?_, ?_, ?_⟩ <;> intro run misfit
    · rw [exec_recipeRead, State.carryOut_of_misfit run (by simpa [lengthAccepted] using misfit)]
    · rw [exec_recipeClear, State.carryOut_of_misfit run (by simpa [lengthAccepted] using misfit)]
    · have rejected : ¬lengthAccepted 0x33 payload = true := fun fits => by
        have := lengthAccepted_constWrite.1 fits
        omega
      rw [exec_constWrite, State.carryOut_of_misfit run (Bool.eq_false_of_not_eq_true rejected)]
    · rw [exec_constRead, State.carryOut_of_misfit run (by simpa [lengthAccepted] using misfit)]

end Sys2Proof.Machine
end

section
/-! Admission (chapter 5): the header that the first check lets through, the verdict of each check once the checks
before it have passed, and the refusal of a request. -/

namespace Sys2Proof.Machine

/-! ### The first check -/

theorem TrunkRequest.header_eq_some {q : TrunkRequest} {op : Op} {tag : Fin 64} :
    q.header = some (op, tag) ↔
      q.op = op.code ∧ q.tag.toNat = tag.val ∧ q.payload.length ≤ 64 ∧ q.flags.extractLsb' 0 3 = 0 := by
  rw [← Op.ofCode_eq_some, ← index?_eq_some, TrunkRequest.header]
  cases Op.ofCode q.op <;> cases index? 64 q.tag <;> simp [and_assoc, and_comm, and_left_comm]

theorem TrunkRequest.header_eq_none {q : TrunkRequest} :
    q.header = none ↔
      63 < q.tag.toNat ∨ q.op = 0 ∨ 3 < q.op.toNat ∨ 64 < q.payload.length ∨ q.flags.extractLsb' 0 3 ≠ 0 := by
  have outside : index? 64 q.tag = none ↔ 63 < q.tag.toNat := index?_eq_none
  have unknown := Op.ofCode_eq_none (c := q.op)
  rw [← outside, ← or_assoc (a := q.op = 0), ← unknown, TrunkRequest.header]
  cases Op.ofCode q.op <;> cases index? 64 q.tag <;> simp [imp_iff_not_or]

/-! ### Conditions the later checks test -/

theorem BranchState.isDraining_iff {state : BranchState} : state.isDraining = true ↔ ∃ d, state = .draining d := by
  cases state <;> simp [BranchState.isDraining]

theorem State.slotOfTag_isSome_iff {s : State} {tag : Byte} :
    (s.slotOfTag tag).isSome = true ↔ ∃ i r, s.record i = some r ∧ r.trunkTag.val = tag.toNat := by
  simp [State.slotOfTag, lowest, State.recordIs_iff]

/-! ### The verdict of each check, the checks before it passed -/

section Checks

variable {s : State} {q : TrunkRequest} {op : Op} {tag : Fin 64} {i : Fin 128} {r : LiveRoute} {recipe : Recipe}

theorem State.judgeRequest_of_malformed (malformed : q.header = none) : s.judgeRequest q = .refuse .malformed := by
  simp only [State.judgeRequest, malformed]

variable (header : q.header = some (op, tag))
include header

theorem State.judgeRequest_of_no_route (missing : s.forwardLookup q.address = none) :
    s.judgeRequest q = .refuse .noRoute := by
  simp only [State.judgeRequest, header, missing]

variable (found : s.forwardLookup q.address = some (i, r))
include found

theorem State.judgeRequest_of_quarantined (quarantined : r.quarantined = true) :
    s.judgeRequest q = .refuse .unreachable := by
  simp [State.judgeRequest, header, found, quarantined]

variable (reachable : r.quarantined = false)
include reachable

theorem State.judgeRequest_of_denied (denied : r.config.permits op = false) :
    s.judgeRequest q = .refuse .denied := by
  simp [State.judgeRequest, header, found, reachable, denied]

variable (permitted : r.config.permits op = true)
include permitted

theorem State.judgeRequest_of_no_recipe (empty : s.recipeOf (r.config.recipeFor op) op = none) :
    s.judgeRequest q = .refuse .noRecipe := by
  simp [State.judgeRequest, header, found, reachable, permitted, empty]

variable (loaded : s.recipeOf (r.config.recipeFor op) op = some recipe)
include loaded

theorem State.judgeRequest_of_short (short : q.payload.length < recipe.neededLength) :
    s.judgeRequest q = .refuse .malformed := by
  simp [State.judgeRequest, header, found, reachable, permitted, loaded, short]

variable (enough : recipe.neededLength ≤ q.payload.length)
include enough

theorem State.judgeRequest_of_branch_down
    (down : (s.branch r.config.branch).state = .disabled ∨ (s.branch r.config.branch).state = .faulted) :
    s.judgeRequest q = .refuse .branchDown := by
  rcases down with down | down <;>
    simp [State.judgeRequest, header, found, reachable, permitted, loaded, enough, down]

theorem State.judgeRequest_of_branch_draining (draining : (s.branch r.config.branch).state.isDraining = true) :
    s.judgeRequest q = .refuse .branchDraining := by
  obtain ⟨d, draining⟩ := BranchState.isDraining_iff.1 draining
  simp [State.judgeRequest, header, found, reachable, permitted, loaded, enough, draining]

variable (enabled : (s.branch r.config.branch).state = .enabled)
include enabled

theorem State.judgeRequest_of_tag_in_use (used : (s.slotOfTag q.tag).isSome = true) :
    s.judgeRequest q = .refuse .tagInUse := by
  simp [State.judgeRequest, header, found, reachable, permitted, loaded, enough, enabled, used]

theorem State.judgeRequest_of_busy (unused : ¬(s.slotOfTag q.tag).isSome = true) (spent : 32 ≤ s.budgetInUse) :
    s.judgeRequest q = .refuse .busy := by
  have spent : Config.budget ≤ s.budgetInUse := spent
  simp [State.judgeRequest, header, found, reachable, permitted, loaded, enough, enabled, unused, spent]

end Checks

/-! ### The refusal -/

/-- The counters take no part in the verdict. -/
theorem State.judgeRequest_bumpTrunk (s : State) (c : TrunkCounter) (q : TrunkRequest) :
    (s.bumpTrunk c).judgeRequest q = s.judgeRequest q := rfl

theorem exec_request (flags : BitVec 4) (address : Address) (tag opCode : Byte) (payload : List Byte) (s : State) :
    exec (.request flags address tag opCode payload) s =
      .next (s.running fun s => s.receiveGood payload fun s => s.admission ⟨flags, address, tag, opCode, payload⟩) :=
  rfl

theorem State.receiveGood_of_le {payload : List Byte} (fits : payload.length ≤ 96) (s : State)
    (act : State → State) : s.receiveGood payload act = act (s.bumpTrunk .goodFrames) :=
  if_pos fits

theorem State.admission_of_refuse {s : State} {q : TrunkRequest} {status : RefusalStatus}
    (verdict : s.judgeRequest q = .refuse status) : s.admission q = s.refuse q status := by
  simp only [State.admission, verdict]

/-- A good REQUEST that a check refuses is counted twice, as a good frame and as refused, and answered (R76). -/
theorem exec_request_of_refuse {s : State} {flags : BitVec 4} {address : Address} {tag opCode : Byte}
    {payload : List Byte} {status : RefusalStatus} (high : s.resetLow = false) (fits : payload.length ≤ 96)
    (verdict : s.judgeRequest ⟨flags, address, tag, opCode, payload⟩ = .refuse status) :
    exec (.request flags address tag opCode payload) s = .next
      (((s.bumpTrunk .goodFrames).bumpTrunk status.counter).joinOrDrop
        (buildTrunk kindResponse address tag status.code [0xFF, 0])) := by
  rw [← State.judgeRequest_bumpTrunk s .goodFrames] at verdict
  rw [exec_request, State.running_of_high high, State.receiveGood_of_le fits, State.admission_of_refuse verdict]
  rfl

/-- Settles O24: the verdict of each check in turn, and what a refusal does. -/
theorem admissionRefusesByTheFirstFailingCheck : Obligations.AdmissionRefusesByTheFirstFailingCheck := by
  intro s flags address tag opCode payload high fits refused
  have refuse {status : RefusalStatus} :
      s.judgeRequest ⟨flags, address, tag, opCode, payload⟩ = .refuse status → refused status :=
    exec_request_of_refuse high fits
  refine ⟨fun malformed => refuse (State.judgeRequest_of_malformed (TrunkRequest.header_eq_none.2 malformed)), ?_⟩
  intro op tag_range known short_enough plain
  have header : (TrunkRequest.mk flags address tag opCode payload).header = some (op, ⟨tag.toNat, by omega⟩) :=
    TrunkRequest.header_eq_some.2 ⟨known, rfl, short_enough, plain⟩
  refine ⟨fun missing => refuse (State.judgeRequest_of_no_route header missing), fun i r found =>
    ⟨fun quarantined => refuse (State.judgeRequest_of_quarantined header found quarantined),
    fun reachable denied => refuse (State.judgeRequest_of_denied header found reachable denied),
    fun reachable permitted empty => refuse (State.judgeRequest_of_no_recipe header found reachable permitted empty),
    fun recipe reachable permitted loaded =>
      ⟨fun short => refuse (State.judgeRequest_of_short header found reachable permitted loaded short),
      fun enough => ⟨?down, ?draining, fun enabled => ⟨?tagInUse, ?busy⟩⟩⟩⟩⟩
  case down =>
    intro down
    exact refuse (State.judgeRequest_of_branch_down header found reachable permitted loaded enough down)
  case draining =>
    intro draining
    exact refuse (State.judgeRequest_of_branch_draining header found reachable permitted loaded enough draining)
  case tagInUse =>
    intro holder
    exact refuse (State.judgeRequest_of_tag_in_use header found reachable permitted loaded enough enabled
      (State.slotOfTag_isSome_iff.2 holder))
  case busy =>
    intro no_holder spent
    refine refuse (State.judgeRequest_of_busy header found reachable permitted loaded enough enabled ?_ spent)
    rw [State.slotOfTag_isSome_iff]
    rintro ⟨j, q, live, same⟩
    exact no_holder j q live same

end Sys2Proof.Machine
end

section
/-! The Transaction Table (chapter 6): what an ending does, how a record moves through its recipe, the requests on live
records, and what a hard reset leaves. -/

namespace Sys2Proof.Machine

/-! ### Endings -/

theorem failingStep_eq (e : Ending) (step : Nat) :
    failingStep e step = if e = .ok then 0xFF else BitVec.ofNat 8 step := by
  cases e <;> rfl

theorem Ending.counter_eq (e : Ending) :
    e.counter = if e = .ok then .completedOk else .completedWithFailure := by
  cases e <;> rfl

theorem State.reportEnding_eq (s : State) (snap : Snapshot) (e : Ending) :
    s.reportEnding snap e = if e = .timeout then s.reportTimeout snap else s := by
  cases e <;> rfl

theorem responseFrame_eq (r : Record) (e : Ending) :
    responseFrame r e = buildTrunk kindResponse r.globalAddress (indexByte r.trunkTag) e.code
      ((if e = .ok then 0xFF else BitVec.ofNat 8 r.step) :: e.nodeCode :: r.accumulator) := by
  rw [responseFrame, failingStep_eq]
  rfl

theorem State.endRecord_eq (s : State) (slot : Fin 32) (r : Record) (e : Ending) :
    s.endRecord slot r e =
      let freed := ((s.join .reserved (responseFrame r e)).bumpTrunk
        (if e = .ok then .completedOk else .completedWithFailure)).setRecord slot none
      if e = .timeout then freed.reportTimeout r.snapshot else freed := by
  simp only [State.endRecord, State.reportEnding_eq, Ending.counter_eq]

@[simp] theorem State.endRecord_branch (s : State) (slot : Fin 32) (r : Record) (e : Ending) (b : Fin 4) :
    (s.endRecord slot r e).branch b = s.branch b := by
  simp only [State.branch, State.endRecord_frame]

theorem State.checkDrained_of_draining {s : State} {b : Fin 4} {d : Time} (draining : (s.branch b).state = .draining d)
    (none_live : s.liveOn b = 0) : s.checkDrained b = (s.setBranchState b .disabled).post (drainedNotice b) := by
  simp [State.checkDrained, draining, BranchState.isDraining, none_live]

theorem State.checkDrained_of_not {s : State} {b : Fin 4}
    (stays : (∀ d, (s.branch b).state ≠ .draining d) ∨ s.liveOn b ≠ 0) : s.checkDrained b = s := by
  refine if_neg fun drained => ?_
  rw [Bool.and_eq_true, BranchState.isDraining_iff, beq_iff_eq] at drained
  obtain ⟨⟨d, draining⟩, none_live⟩ := drained
  exact stays.elim (fun working => working d draining) (fun live => live none_live)

/-- Settles O26: the ending's items as one update, then the drain judged on the branch that the ending left alone. -/
theorem endingWritesTheResponseAndFreesTheRecord : Obligations.EndingWritesTheResponseAndFreesTheRecord := by
  intro s slot r e response freed ended b
  have response_eq : response = responseFrame r e := by
    rw [responseFrame_eq]
    cases e <;> rfl
  have ended_eq : ended = s.endRecord slot r e := by
    simp only [ended, freed, response_eq, State.endRecord_eq]
  clear_value ended
  subst ended
  constructor
  · rintro ⟨d, draining⟩ none_live
    exact State.checkDrained_of_draining ((congrArg _ (s.endRecord_branch slot r e b)).trans draining) none_live
  · intro stays
    refine State.checkDrained_of_not ?_
    rwa [State.endRecord_branch]

/-! ### Moving through the recipe -/

theorem State.advance_of_last {s : State} {r : Record} (last : (s.stepsOf r).length ≤ r.step + 1) (slot : Fin 32) :
    s.advance slot r = s.endTransaction slot r .ok := by
  simp only [State.advance, List.getElem?_eq_none last]

theorem State.advance_of_upcoming {s : State} {r : Record} {step : Step}
    (upcoming : (s.stepsOf r)[r.step + 1]? = some step) (slot : Fin 32) :
    s.advance slot r = s.takeUp slot { r with step := r.step + 1 } step := by
  simp only [State.advance, upcoming]

/-- Settles O29: the recipe has no further step, or the next one is taken up by its kind. -/
theorem advanceTakesUpTheNextStep : Obligations.AdvanceTakesUpTheNextStep := by
  intro s slot r
  refine ⟨fun last => State.advance_of_last last slot, ?_⟩
  intro step upcoming b queued
  rw [State.advance_of_upcoming upcoming]
  refine ⟨?issue, ?await, ?pause⟩
  case issue =>
    rintro op block offset slice capture rfl
    exact s.queueRecord_eq slot _
  case await =>
    rintro op block index mask expected limit spacing rfl
    exact s.queueRecord_eq slot _
  case pause =>
    rintro d rfl
    rfl

/-! ### The requests on live records -/

theorem exec_transactionAbort (s : State) : exec .transactionAbort s = .next (s.carryOut 0x50 transactionAbort) := rfl

theorem exec_pendingRead (s : State) :
    exec .pendingRead s = .next (s.carryOut 0x51 fun _ s => s.answer .done s.pendingItems) := rfl

theorem State.slotOfTag_eq_none {s : State} {tag : Byte}
    (free : ∀ i r, s.record i = some r → r.trunkTag.val ≠ tag.toNat) : s.slotOfTag tag = none := by
  rw [← Option.not_isSome_iff_eq_none, State.slotOfTag_isSome_iff]
  rintro ⟨i, r, live, same⟩
  exact free i r live same

theorem State.slotOfTag_of_only {s : State} {tag : Byte} {slot : Fin 32} {r : Record} (live : s.record slot = some r)
    (holds : r.trunkTag.val = tag.toNat) (only : ∀ i q, s.record i = some q → q.trunkTag = r.trunkTag → i = slot) :
    s.slotOfTag tag = some slot := by
  refine lowest_eq_some (State.recordIs_iff.2 ⟨r, live, beq_iff_eq.2 holds⟩) fun j below => ?_
  refine Bool.eq_false_of_not_eq_true fun other => ?_
  obtain ⟨q, q_live, same⟩ := State.recordIs_iff.1 other
  exact below.ne (only j q q_live (Fin.ext ((beq_iff_eq.1 same).trans holds.symm)))

theorem transactionAbort_of_high {tag : Byte} (high : 63 < tag.toNat) (s : State) :
    transactionAbort [tag] s = s.answer .badValue [] :=
  if_pos high

theorem transactionAbort_of_missing {s : State} {tag : Byte} (low : tag.toNat ≤ 63) (missing : s.slotOfTag tag = none) :
    transactionAbort [tag] s = s.answer .notFound [] := by
  simp only [transactionAbort, missing]
  exact if_neg (by omega)

theorem transactionAbort_of_found {s : State} {tag : Byte} {slot : Fin 32} {r : Record} (low : tag.toNat ≤ 63)
    (found : s.slotOfTag tag = some slot) (live : s.record slot = some r) :
    transactionAbort [tag] s =
      ((s.undo slot r).endTransaction slot r .aborted).answer .done [BitVec.ofNat 8 r.state.code] := by
  simp only [transactionAbort, found, live]
  exact if_neg (by omega)

theorem State.undo_of_queued {r : Record} (queued : r.state = .queued) (s : State) (slot : Fin 32) :
    s.undo slot r = s.setBranch r.snapshot.branch ((s.branch r.snapshot.branch).dequeue slot) := by
  simp only [State.undo, queued]

theorem State.undo_of_issued {r : Record} {n : Fin 16} {d : Option Time} (issued : r.state = .issued n d) (s : State)
    (slot : Fin 32) :
    s.undo slot r = s.setTag r.snapshot.branch n
      ((s.branch r.snapshot.branch).cooled s.now ((s.branch r.snapshot.branch).tag n)) := by
  simp only [State.undo, issued, State.coolTag, BranchPort.coolTag_eq_cooled]
  rfl

theorem State.undo_of_timed {r : Record} {d : Time} (timed : r.state = .spacing d ∨ r.state = .paused d) (s : State)
    (slot : Fin 32) : s.undo slot r = s := by
  rcases timed with timed | timed <;> simp only [State.undo, timed]

/-- Settles O28: an abort by what its tag finds, PENDING_READ item by item, either by its payload length. -/
theorem abortAndPendingRead : Obligations.AbortAndPendingRead := by
  refine ⟨⟨fun s tag run => ⟨?high, ?missing, ?found⟩, ?list⟩, ?lengths⟩
  case high =>
    intro high
    rw [exec_transactionAbort, State.carryOut_of_executes run rfl, transactionAbort_of_high high]
  case missing =>
    intro low free
    rw [exec_transactionAbort, State.carryOut_of_executes run rfl,
      transactionAbort_of_missing low (State.slotOfTag_eq_none free)]
  case found =>
    intro slot r live holds only b port ended
    have low : tag.toNat ≤ 63 := holds ▸ Nat.le_of_lt_succ r.trunkTag.isLt
    have aborted : ended (s.undo slot r) (BitVec.ofNat 8 r.state.code) := by
      simp only [ended, exec_transactionAbort, State.carryOut_of_executes run rfl,
        transactionAbort_of_found low (State.slotOfTag_of_only live holds only) live]
    refine ⟨fun queued => ?_, fun n d issued => ?_, fun d spacing => ?_, fun d paused => ?_⟩
    · rwa [State.undo_of_queued queued, queued] at aborted
    · rwa [State.undo_of_issued issued, issued] at aborted
    · rwa [State.undo_of_timed (.inl spacing), spacing] at aborted
    · rwa [State.undo_of_timed (.inr paused), paused] at aborted
  case list =>
    intro s run
    rw [exec_pendingRead, State.carryOut_of_executes run rfl, State.pendingItems]
    congr 4
    funext i
    cases s.record i with
    | none => rfl
    | some r =>
      simp only [Record.pendingItem, Nat.mul_comm _ 16]
      cases r.state <;> rfl
  case lengths =>
    intro s payload
    constructor <;> intro run misfit
    · rw [exec_transactionAbort, State.carryOut_of_misfit run (by simpa [lengthAccepted] using misfit)]
    · rw [exec_pendingRead, State.carryOut_of_misfit run (by simpa [lengthAccepted] using misfit)]

/-! ### The hard reset -/

@[simp] theorem State.hardReset_record (s : State) (i : Fin 32) : s.hardReset.record i = none :=
  look_replicate none i

@[simp] theorem State.hardReset_branch (s : State) (b : Fin 4) : s.hardReset.branch b = resetPort :=
  look_replicate resetPort b

theorem resetPort_tag (n : Fin 16) : resetPort.tag n = .free :=
  look_replicate TagRecord.free n

/-- No test finds a record in the table that a hard reset leaves. -/
theorem State.hardReset_recordIs (s : State) (p : Record → Bool) : s.hardReset.recordIs p = fun _ => false := by
  funext i
  simp only [State.recordIs, State.hardReset_record]

theorem countWhere_false (n : Nat) : countWhere (fun _ : Fin n => false) = 0 := by
  simp [countWhere]

theorem State.hardReset_budgetInUse (s : State) : s.hardReset.budgetInUse = 0 := by
  rw [State.budgetInUse, State.liveCount, State.hardReset_recordIs, countWhere_false]
  rfl

theorem State.hardReset_slotOfTag (s : State) (tag : Byte) : s.hardReset.slotOfTag tag = none := by
  apply State.slotOfTag_eq_none
  simp

theorem State.hardReset_recipeInUse (s : State) (k : Fin 32) : s.hardReset.recipeInUse k = false := by
  simp only [State.recipeInUse, State.recipeRecords, State.hardReset_recordIs, countWhere_false]
  rfl

theorem State.hardReset_profileInUse (s : State) (p : Fin 4) : s.hardReset.profileInUse p = false := by
  refine Bool.eq_false_of_not_eq_true fun used => ?_
  rcases ((inUseMeansALiveRecordOrACoolingTag s.hardReset).1 p).1 used with ⟨i, r, live, -⟩ | ⟨b, n, a, d, cools⟩
  · simp at live
  · simp [resetPort_tag] at cools

theorem State.endHardReset_hardReset (s : State) (straps : BitVec 4) :
    s.hardReset.endHardReset straps =
      { State.reset with
        ownAddress := Config.strapBase + straps.setWidth 16, now := s.now, pending := s.pending } :=
  if_pos rfl

/-- Settles O3: each field after the reset, and the straps added to 0xFF00 when RESET# rises. -/
theorem hardResetEmptiesThePart : Obligations.HardResetEmptiesThePart := by
  intro s straps
  refine ⟨s.hardReset, rfl, rfl, s.hardReset_record, s.hardReset_budgetInUse, rfl, rfl, fun b => ?ports,
    fun n => look_replicate 0 n, s.hardReset_slotOfTag, s.hardReset_recipeInUse, s.hardReset_profileInUse, ?rises⟩
  case ports =>
    rw [s.hardReset_branch]
    exact ⟨rfl, rfl, rfl, resetPort_tag⟩
  case rises =>
    have address : Config.strapBase + straps.setWidth 16 = BitVec.ofNat 16 (0xFF00 + straps.toNat) := by
      simp only [Config.strapBase]
      bv_omega
    rw [← address, ← State.endHardReset_hardReset]
    rfl

end Sys2Proof.Machine
end

section
/-! Branch events (R94): what is undone of one record, what its ending does where the branch imposes it, and the ending of
every record of a branch as a fold over the slots. -/

namespace Sys2Proof.Machine

/-! ### What is undone of one record -/

theorem Record.holdsTag_iff {r : Record} {n : Fin 16} : r.holdsTag n = true ↔ ∃ d, r.state = .issued n d := by
  cases state : r.state <;> simp [Record.holdsTag, state]

theorem State.branch_setBranch_of_ne {b d : Fin 4} (h : d ≠ b) (s : State) (p : BranchPort) :
    (s.setBranch b p).branch d = s.branch d :=
  look_put_ne h.symm

theorem State.undo_branch_of_ne {d : Fin 4} {r : Record} (other : d ≠ r.snapshot.branch) (s : State) (slot : Fin 32) :
    (s.undo slot r).branch d = s.branch d := by
  unfold State.undo
  split
  · exact State.branch_setBranch_of_ne other s _
  · exact State.branch_setBranch_of_ne other s _
  · rfl
  · rfl

/-- Undoing a record touches its port's queues where it is QUEUED, and its tags. -/
theorem State.undo_branch_self (s : State) (slot : Fin 32) (r : Record) :
    ∃ tags, (s.undo slot r).branch r.snapshot.branch =
      { s.branch r.snapshot.branch with
        urgentQueue := (s.branch r.snapshot.branch).urgentQueue.filter fun i => !(i == slot && r.isQueued)
        normalQueue := (s.branch r.snapshot.branch).normalQueue.filter fun i => !(i == slot && r.isQueued)
        tags := tags } := by
  refine ⟨((s.undo slot r).branch r.snapshot.branch).tags, ?_⟩
  cases state : r.state with
  | queued => simp [State.undo_of_queued state, BranchPort.dequeue, Record.isQueued, state, bne]
  | issued n d => simp [State.undo_of_issued state, State.setTag, BranchPort.setTag, Record.isQueued, state]
  | spacing d => simp [State.undo_of_timed (.inl state), Record.isQueued, state]
  | paused d => simp [State.undo_of_timed (.inr state), Record.isQueued, state]

/-- Undoing a record cools the tag it holds and no other. -/
theorem State.undo_tag (s : State) (slot : Fin 32) (r : Record) (n : Fin 16) :
    ((s.undo slot r).branch r.snapshot.branch).tag n =
      if r.holdsTag n then (s.branch r.snapshot.branch).cooled s.now ((s.branch r.snapshot.branch).tag n)
      else (s.branch r.snapshot.branch).tag n := by
  cases state : r.state with
  | queued => simp only [State.undo_of_queued state, State.branch_setBranch_self, Record.holdsTag, state]; rfl
  | issued m d =>
    rw [State.undo_of_issued state, State.setTag, State.branch_setBranch_self, BranchPort.tag_setTag]
    simp only [Record.holdsTag, state, beq_iff_eq]
    split
    next same => rw [same]
    next => rfl
  | spacing d => rw [State.undo_of_timed (.inl state)]; simp [Record.holdsTag, state]
  | paused d => rw [State.undo_of_timed (.inr state)]; simp [Record.holdsTag, state]

theorem BranchPort.cooled_congr {p q : BranchPort} (same : p.settings = q.settings) (now : Time) (tag : TagRecord) :
    p.cooled now tag = q.cooled now tag := by
  cases tag <;> simp only [BranchPort.cooled, same]

/-- A tag that is cooling already cools no further. -/
theorem BranchPort.cooled_cooled (p : BranchPort) (now : Time) (tag : TagRecord) :
    p.cooled now (p.cooled now tag) = p.cooled now tag := by
  cases tag <;> rfl

/-! ### One imposed ending -/

/-- The statuses that a branch event imposes (R94). -/
def Ending.Imposed (e : Ending) : Prop := e = .branchFault ∨ e = .branchDown ∨ e = .aborted

theorem Ending.Imposed.responseFrame_eq {e : Ending} (imposed : e.Imposed) (r : Record) :
    responseFrame r e = buildTrunk kindResponse r.globalAddress (indexByte r.trunkTag) e.code
      (BitVec.ofNat 8 r.step :: 0 :: r.accumulator) := by
  rcases imposed with rfl | rfl | rfl <;> rfl

theorem Ending.Imposed.counter_eq {e : Ending} (imposed : e.Imposed) : e.counter = .completedWithFailure := by
  rcases imposed with rfl | rfl | rfl <;> rfl

/-- No imposed status is TIMEOUT, so none reports to a route. -/
theorem Ending.Imposed.reportEnding_eq {e : Ending} (imposed : e.Imposed) (s : State) (snap : Snapshot) :
    s.reportEnding snap e = s := by
  rcases imposed with rfl | rfl | rfl <;> rfl

/-- The live record of a slot, where it is a record of the branch. -/
def State.recordOn (s : State) (b : Fin 4) (i : Fin 32) : Option Record :=
  (s.record i).filter fun r => r.snapshot.branch == b

theorem State.recordOn_eq_some {s : State} {b : Fin 4} {i : Fin 32} {r : Record} :
    s.recordOn b i = some r ↔ s.record i = some r ∧ r.snapshot.branch = b := by
  rw [State.recordOn, Option.filter_eq_some_iff, beq_iff_eq]

theorem State.endSlotOf_of_some {s : State} {b : Fin 4} {slot : Fin 32} {r : Record}
    (on : s.recordOn b slot = some r) (e : Ending) :
    s.endSlotOf b e slot = (s.undo slot r).endRecord slot r e := by
  obtain ⟨live, same⟩ := State.recordOn_eq_some.1 on
  simp only [State.endSlotOf, live]
  exact if_pos same

theorem State.endSlotOf_of_none {s : State} {b : Fin 4} {slot : Fin 32} (off : s.recordOn b slot = none) (e : Ending) :
    s.endSlotOf b e slot = s := by
  unfold State.endSlotOf
  split
  next r live =>
    refine if_neg fun same => ?_
    rw [State.recordOn_eq_some.2 ⟨live, same⟩] at off
    cases off
  next => rfl

/-- An imposed ending of one record, as one update. -/
theorem State.undo_endRecord_of_imposed {e : Ending} (imposed : e.Imposed) (s : State) (slot : Fin 32) (r : Record) :
    (s.undo slot r).endRecord slot r e =
      { s with
        toq := s.toq ++ [⟨responseFrame r e, .reserved⟩]
        tx := if s.tx = .idle then .sending else s.tx
        records := put s.records slot none
        branches := (s.undo slot r).branches
        trunkCounters := put s.trunkCounters TrunkCounter.completedWithFailure.index
          (satInc (look s.trunkCounters TrunkCounter.completedWithFailure.index)) } := by
  rw [State.endRecord, imposed.reportEnding_eq, imposed.counter_eq, State.join_eq]
  cases state : r.state <;> simp only [State.undo, state] <;> rfl

/-! ### The endings of a list of slots -/

/-- A frame that joins finds an IDLE transmitter only where no frame before it has begun one. -/
theorem TrunkTx.begin_twice (tx : TrunkTx) (p : Prop) [Decidable p] :
    (if (if tx = .idle ∧ p then .sending else tx) = .idle then .sending
      else if tx = .idle ∧ p then .sending else tx) = if tx = .idle then TrunkTx.sending else tx := by
  by_cases idle : tx = .idle <;> simp [idle]

/-- `t` is `s` with the records of a branch in the slots `done` ended, and nothing else changed. -/
structure State.EndedSlots (s : State) (b : Fin 4) (e : Ending) (done : List (Fin 32)) (t : State) : Prop where
  frame : ∃ records branches counters, t =
    { s with
      toq := s.toq ++ done.filterMap fun i => (s.recordOn b i).map fun r => ⟨responseFrame r e, .reserved⟩
      tx := if s.tx = .idle ∧ done.any (fun i => (s.recordOn b i).isSome) then .sending else s.tx
      records := records, branches := branches, trunkCounters := counters }
  record : ∀ i, t.record i = if i ∈ done ∧ (s.recordOn b i).isSome then none else s.record i
  counter : ∀ n, look t.trunkCounters n =
    if n = TrunkCounter.completedWithFailure.index then
      (satInc^[(done.filter fun i => (s.recordOn b i).isSome).length]) (look s.trunkCounters n)
    else look s.trunkCounters n
  other : ∀ d, d ≠ b → t.branch d = s.branch d
  port : ∃ tags, t.branch b =
    { s.branch b with
      urgentQueue := (s.branch b).urgentQueue.filter fun i => !(i ∈ done && (s.recordOn b i).any Record.isQueued)
      normalQueue := (s.branch b).normalQueue.filter fun i => !(i ∈ done && (s.recordOn b i).any Record.isQueued)
      tags := tags }
  tag : ∀ n, (t.branch b).tag n =
    if done.any fun i => (s.recordOn b i).any fun r => r.holdsTag n then
      (s.branch b).cooled s.now ((s.branch b).tag n)
    else (s.branch b).tag n

namespace State.EndedSlots

variable {s t : State} {b : Fin 4} {e : Ending} {done : List (Fin 32)} {slot : Fin 32} {r : Record}

theorem nil (s : State) (b : Fin 4) (e : Ending) : s.EndedSlots b e [] s where
  frame := ⟨s.records, s.branches, s.trunkCounters, by simp⟩
  record := by simp
  counter := by simp
  other := by simp
  port := ⟨(s.branch b).tags, by simp⟩
  tag := by simp

theorem now_eq (h : s.EndedSlots b e done t) : t.now = s.now := by
  obtain ⟨records, branches, counters, whole⟩ := h.frame
  rw [whole]

theorem settings_eq (h : s.EndedSlots b e done t) : (t.branch b).settings = (s.branch b).settings := by
  obtain ⟨tags, port⟩ := h.port
  rw [port]

theorem recordOn_of_not_mem (h : s.EndedSlots b e done t) (new : slot ∉ done) :
    t.recordOn b slot = s.recordOn b slot := by
  rw [State.recordOn, h.record, if_neg fun old => new old.1]
  rfl

/-- A slot without a record of the branch is passed over. -/
theorem skip (h : s.EndedSlots b e done t) (off : s.recordOn b slot = none) : s.EndedSlots b e (done ++ [slot]) t where
  frame := by simpa [off] using h.frame
  record i := by
    rw [h.record]
    by_cases same : i = slot
    · simp [same, off]
    · simp [same]
  counter := by simpa [off] using h.counter
  other := h.other
  port := by
    obtain ⟨tags, port⟩ := h.port
    refine ⟨tags, port.trans ?_⟩
    have kept (i : Fin 32) : (decide (i ∈ done) && (s.recordOn b i).any Record.isQueued) =
        (decide (i ∈ done ++ [slot]) && (s.recordOn b i).any Record.isQueued) := by
      by_cases same : i = slot
      · simp [same, off]
      · simp [same]
    simp only [kept]
  tag := by simpa [off] using h.tag

/-- A slot with a record of the branch, new to the list, is ended. -/
theorem ending (h : s.EndedSlots b e done t) (imposed : e.Imposed) (new : slot ∉ done)
    (on : s.recordOn b slot = some r) :
    s.EndedSlots b e (done ++ [slot]) ((t.undo slot r).endRecord slot r e) := by
  obtain ⟨-, same⟩ := State.recordOn_eq_some.1 on
  subst same
  rw [State.undo_endRecord_of_imposed imposed]
  refine ⟨?frame, ?record, ?counter, ?other, ?port, ?tag⟩
  case frame =>
    obtain ⟨records, branches, counters, rfl⟩ := h.frame
    simp only [TrunkTx.begin_twice, List.filterMap_append, List.filterMap_cons, List.filterMap_nil, List.any_append,
      List.any_cons, on, Option.map_some, Option.isSome_some, Bool.true_or, Bool.or_true, and_true,
      ← List.append_assoc]
    exact ⟨_, _, _, rfl⟩
  case record =>
    intro i
    refine (look_put t.records slot i none).trans ?_
    by_cases old : slot = i
    · simp [← old, on]
    · rw [if_neg old]
      refine (h.record i).trans ?_
      simp [Ne.symm old]
  case counter =>
    intro n
    refine (look_put t.trunkCounters _ n _).trans ?_
    by_cases failed : n = TrunkCounter.completedWithFailure.index
    · subst failed
      simp [h.counter, on, Function.iterate_succ_apply']
    · rw [if_neg (Ne.symm failed), h.counter, if_neg failed, if_neg failed]
  case other =>
    intro d other
    exact (State.undo_branch_of_ne other t slot).trans (h.other d other)
  case port =>
    obtain ⟨before, port⟩ := h.port
    obtain ⟨tags, undone⟩ := t.undo_branch_self slot r
    refine ⟨tags, undone.trans ?_⟩
    have left (i : Fin 32) :
        (!(i == slot && r.isQueued) && !(decide (i ∈ done) && (s.recordOn r.snapshot.branch i).any Record.isQueued)) =
          !(decide (i ∈ done ++ [slot]) && (s.recordOn r.snapshot.branch i).any Record.isQueued) := by
      by_cases same : i = slot
      · simp [same, on, new]
      · simp [same]
    simp only [port, List.filter_filter, left]
  case tag =>
    intro n
    refine (t.undo_tag slot r n).trans ?_
    rw [BranchPort.cooled_congr h.settings_eq, h.now_eq, h.tag]
    simp only [List.any_append, List.any_cons, List.any_nil, on, Option.any_some, Bool.or_false, Bool.or_eq_true]
    by_cases held : r.holdsTag n = true
    · simp only [held, or_true, if_true]
      split
      · exact BranchPort.cooled_cooled _ _ _
      · rfl
    · simp only [held, Bool.false_eq_true, or_false, if_false]

end State.EndedSlots

/-- A branch event ends the records of any list of different slots, by induction on the list from its end. -/
theorem State.endedSlots_foldl {e : Ending} (imposed : e.Imposed) (s : State) (b : Fin 4) (slots : List (Fin 32))
    (nodup : slots.Nodup) : s.EndedSlots b e slots (slots.foldl (State.endSlotOf b e) s) := by
  induction slots using List.reverseRecOn with
  | nil => exact .nil s b e
  | append_singleton done slot ih =>
    rw [← List.concat_eq_append, List.nodup_concat] at nodup
    obtain ⟨new, nodup⟩ := nodup
    have before := ih nodup
    rw [List.foldl_concat]
    cases on : s.recordOn b slot with
    | none =>
      rw [State.endSlotOf_of_none ((before.recordOn_of_not_mem new).trans on)]
      exact before.skip on
    | some r =>
      rw [State.endSlotOf_of_some ((before.recordOn_of_not_mem new).trans on)]
      exact before.ending imposed new on

/-- Settles O27: the fold over the slots, read at the list of all of them. -/
theorem branchEventEndsItsRecordsInSlotOrder : Obligations.BranchEventEndsItsRecordsInSlotOrder := by
  intro s b e imposed t ends
  have ended : s.EndedSlots b e (List.finRange 32) t := s.endedSlots_foldl imposed b _ (List.nodup_finRange 32)
  have ends_eq : ends = s.recordOn b := rfl
  clear_value ends t
  subst ends_eq
  refine ⟨?frame, ?record, ended.counter, ended.other, ?port, fun n => ⟨?cools, ?stays⟩⟩
  case frame =>
    obtain ⟨records, branches, counters, rfl⟩ := ended.frame
    simp only [Ending.Imposed.responseFrame_eq imposed]
  case record =>
    intro i
    simpa using ended.record i
  case port =>
    obtain ⟨tags, port⟩ := ended.port
    rw [port]
    simp
  case cools =>
    rintro ⟨i, r, d, on, issued⟩
    rw [ended.tag, if_pos]
    exact List.any_eq_true.2 ⟨i, List.mem_finRange i, by rw [on]; exact Record.holdsTag_iff.2 ⟨d, issued⟩⟩
  case stays =>
    intro unheld
    rw [ended.tag, if_neg]
    intro held
    obtain ⟨i, -, holds⟩ := List.any_eq_true.1 held
    obtain ⟨r, on, holds⟩ := Option.any_eq_true _ _ |>.1 holds
    obtain ⟨d, issued⟩ := Record.holdsTag_iff.1 holds
    exact unheld i r d on issued

end Sys2Proof.Machine
end

section
/-! Branch Ports (chapter 7): frames taken on a closed branch, and the four branch requests by their operands and by the
state of the branch. -/

namespace Sys2Proof.Machine

/-! ### Working and closed branches -/

theorem BranchState.working_iff {state : BranchState} :
    state.working = true ↔ state = .enabled ∨ state.isDraining = true := by
  cases state <;> simp [BranchState.working, BranchState.isDraining]

theorem BranchState.not_working_iff {state : BranchState} :
    ¬state.working = true ↔ state = .disabled ∨ state = .faulted := by
  cases state <;> simp [BranchState.working]

/-! ### Frames on a closed branch -/

theorem exec_branchFrame (b : Fin 4) (content : List Byte) (s : State) :
    exec (.branchFrame b content) s =
      .next (s.running fun s => s.receiveBranch b (readBranch (s.branch b) s.profiles content)) := rfl

theorem exec_branchResponse (b : Fin 4) (localAddress tag status : Byte) (payload : List Byte) (s : State) :
    exec (.branchResponse b localAddress tag status payload) s =
      .next (s.running fun s => s.receiveBranch b (goodFrame ⟨2, localAddress, tag, status, payload⟩)) := rfl

theorem exec_alert (b : Fin 4) (localAddress : Byte) (payload : List Byte) (s : State) :
    exec (.alert b localAddress payload) s =
      .next (s.running fun s => s.receiveBranch b (goodFrame ⟨3, localAddress, 0, 0, payload⟩)) := rfl

/-- The receiver of a closed branch does not look at the frame it takes, good or bad. -/
theorem State.receiveBranch_of_closed {s : State} {b : Fin 4} (closed : ¬(s.branch b).state.working = true)
    (frame : Option BranchFrame) : s.receiveBranch b frame = s.bumpBranch b .framesIgnored :=
  if_neg closed

/-- Settles O37: whatever frame a command stands for, the receiver of a closed branch only counts it. -/
theorem framesOnAClosedBranchAreIgnored : Obligations.FramesOnAClosedBranchAreIgnored := by
  intro s b high closed
  have ignored := State.receiveBranch_of_closed (BranchState.not_working_iff.2 closed)
  refine ⟨fun content => ?_, fun localAddress tag status payload => ?_, fun localAddress payload => ?_⟩
  · rw [exec_branchFrame, State.running_of_high high, ignored]
  · rw [exec_branchResponse, State.running_of_high high, ignored]
  · rw [exec_alert, State.running_of_high high, ignored]

/-! ### BRANCH_CONFIG -/

theorem exec_branchConfig (s : State) : exec .branchConfig s = .next (s.carryOut 0x40 branchConfig) := rfl

theorem one_le_toNat_iff {x : Byte} : 1 ≤ x.toNat ↔ x ≠ 0 := by bv_omega

/-- Test 2 of R105: the five operands carry settings exactly where each is in its range. -/
theorem readSettings_eq_some {window cool fault profile severity : Byte} {settings : Settings} :
    readSettings window cool fault profile severity = some settings ↔
      (window ≠ 0 ∧ window.toNat ≤ 4 ∧ cool ≠ 0 ∧ fault ≠ 0 ∧ fault.toNat ≤ 15) ∧
      ∃ p v, profile.toNat = p.val ∧ severity.toNat = v.val ∧
        settings = ⟨window.toNat, cool.toNat, fault.toNat, p, v⟩ := by
  simp [readSettings, one_le_toNat_iff, Option.bind_eq_some_iff, index?_eq_some, and_assoc, eq_comm (a := settings)]

theorem branchConfig_of_bad_operand {branch window cool fault profile severity : Byte}
    (bad : 3 < branch.toNat ∨ ∀ settings, readSettings window cool fault profile severity ≠ some settings)
    (s : State) :
    branchConfig [branch, window, cool, fault, profile, severity] s = s.answer .badValue [] := by
  rcases bad with outside | unreadable
  · simp [branchConfig, index?_eq_none.2 outside]
  · simp [branchConfig, Option.eq_none_iff_forall_ne_some.2 unreadable]

theorem branchConfig_of_settings {branch window cool fault profile severity : Byte} {b : Fin 4} {settings : Settings}
    (at_b : branch.toNat = b.val) (readable : readSettings window cool fault profile severity = some settings)
    (s : State) :
    branchConfig [branch, window, cool, fault, profile, severity] s =
      if (s.branch b).state.working then s.answer .badState []
      else (s.setBranch b { s.branch b with settings := settings }).answer .done [] := by
  simp [branchConfig, index?_eq_some.2 at_b, readable]

/-! ### BRANCH_ENABLE -/

theorem exec_branchEnable (s : State) : exec .branchEnable s = .next (s.carryOut 0x41 (onIndex 4 branchEnable)) := rfl

/-- Settles O32: BRANCH_CONFIG by what its operands spell, both requests then by whether the branch works. -/
theorem branchConfigAndEnable : Obligations.BranchConfigAndEnable := by
  refine ⟨⟨?config, ?enable⟩, ?misfit⟩
  case config =>
    intro s branch window cool fault profile severity run bad
    rw [exec_branchConfig, State.carryOut_of_executes run rfl]
    refine ⟨fun out => ?badValue, fun b p v inRange at_b at_p at_v => ?byState⟩
    case badValue =>
      rw [branchConfig_of_bad_operand]
      refine out.imp_right fun out settings readable => ?_
      obtain ⟨operands, p, v, at_p, at_v, -⟩ := readSettings_eq_some.1 readable
      grind
    case byState =>
      have readable : readSettings window cool fault profile severity =
          some ⟨window.toNat, cool.toNat, fault.toNat, p, v⟩ :=
        readSettings_eq_some.2 ⟨by grind, p, v, at_p, at_v, rfl⟩
      rw [branchConfig_of_settings at_b readable, ← BranchState.working_iff, ← BranchState.not_working_iff]
      exact ⟨fun works => by rw [if_pos works], fun closed => by rw [if_neg closed]⟩
  case enable =>
    intro s branch run
    obtain ⟨outside, inside⟩ := State.carryOut_onIndex run rfl branchEnable
    refine ⟨fun far => by rw [exec_branchEnable, outside far], fun b at_b => ?_⟩
    rw [exec_branchEnable, inside b at_b, branchEnable, ← BranchState.working_iff, ← BranchState.not_working_iff]
    exact ⟨fun works => by rw [if_pos works], fun closed => by rw [if_neg closed]⟩
  case misfit =>
    intro s payload run misfit
    rw [exec_branchConfig, State.carryOut_of_misfit run (by simpa [lengthAccepted] using misfit)]

/-! ### BRANCH_DISABLE -/

theorem exec_branchDisable (s : State) :
    exec .branchDisable s = .next (s.carryOut 0x43 (onIndex 4 branchDisable)) := rfl

/-! ### BRANCH_DRAIN -/

theorem exec_branchDrain (s : State) : exec .branchDrain s = .next (s.carryOut 0x42 branchDrain) := rfl

/-- The deadline of a BRANCH_DRAIN is 0 exactly where both of its bytes are. -/
theorem pair_eq_zero_iff {a b : Byte} : (a ++ b : BitVec 16) = 0#16 ↔ a = 0 ∧ b = 0 := by
  constructor
  · intro zero
    have high := extractLsb'_append_high a b
    have low := extractLsb'_append_low a b
    rw [zero] at high low
    exact ⟨high.symm, low.symm⟩
  · rintro ⟨rfl, rfl⟩
    rfl

theorem State.liveOn_eq_zero {s : State} {b : Fin 4} :
    s.liveOn b = 0 ↔ ∀ i r, s.record i = some r → r.snapshot.branch ≠ b := by
  rw [← not_iff_not, State.liveOn, ← ne_eq, countWhere_ne_zero]
  simp [State.recordIs_iff]

theorem State.setBranchState_twice (s : State) (b : Fin 4) (first second : BranchState) :
    (s.setBranchState b first).setBranchState b second = s.setBranchState b second := by
  simp only [State.setBranchState, State.branch_setBranch_self]
  simp only [State.setBranch, put_put]

section Drain

variable {s : State} {branch d1 d0 : Byte} {b : Fin 4}

theorem branchDrain_of_bad_operand (bad : 3 < branch.toNat ∨ (d1 = 0 ∧ d0 = 0)) :
    branchDrain [branch, d1, d0] s = s.answer .badValue [] := by
  rcases bad with outside | zero
  · simp [branchDrain, index?_eq_none.2 outside]
  · cases known : index? 4 branch <;> simp [branchDrain, known, pair_eq_zero_iff.2 zero]

variable (at_b : branch.toNat = b.val) (positive : ¬(d1 = 0 ∧ d0 = 0))
include at_b positive

theorem branchDrain_of_disabled (disabled : (s.branch b).state = .disabled) :
    branchDrain [branch, d1, d0] s = s.answer .done [] := by
  simp [branchDrain, index?_eq_some.2 at_b, mt pair_eq_zero_iff.1 positive, disabled]

theorem branchDrain_of_badState (unfit : (s.branch b).state = .faulted ∨ (s.branch b).state.isDraining = true) :
    branchDrain [branch, d1, d0] s = s.answer .badState [] := by
  rw [BranchState.isDraining_iff] at unfit
  obtain faulted | ⟨d, draining⟩ := unfit
  · simp [branchDrain, index?_eq_some.2 at_b, mt pair_eq_zero_iff.1 positive, faulted]
  · simp [branchDrain, index?_eq_some.2 at_b, mt pair_eq_zero_iff.1 positive, draining]

/-- An ENABLED branch becomes DRAINING, and the drain is judged at once: it may find no live record. -/
theorem branchDrain_of_enabled (enabled : (s.branch b).state = .enabled) :
    branchDrain [branch, d1, d0] s =
      ((s.setBranchState b (.draining (s.now + (d1.toNat * 256 + d0.toNat) * 10))).checkDrained b).answer
        .accepted [] := by
  simp [branchDrain, index?_eq_some.2 at_b, mt pair_eq_zero_iff.1 positive, enabled, toNat_pair, Config.unitsPerMs]

end Drain

/-- A drain that begins on a branch with a live record goes on. -/
theorem State.checkDrained_begun_of_live {s : State} {b : Fin 4} (live : s.liveOn b ≠ 0) (d : Time) :
    (s.setBranchState b (.draining d)).checkDrained b = s.setBranchState b (.draining d) :=
  State.checkDrained_of_not (.inr live)

/-- A drain that begins on a branch without a live record ends in the same event, as R110 gives. -/
theorem State.checkDrained_begun_of_none {s : State} {b : Fin 4} (none_live : s.liveOn b = 0) (d : Time) :
    (s.setBranchState b (.draining d)).checkDrained b = (s.setBranchState b .disabled).post (drainedNotice b) := by
  have draining : ((s.setBranchState b (.draining d)).branch b).state = .draining d := by simp [State.setBranchState]
  rw [State.checkDrained_of_draining draining none_live, State.setBranchState_twice]

/-- Settles O33: BRANCH_DISABLE by whether the branch works, BRANCH_DRAIN by the branch's state and, where it is ENABLED,
by whether a live record is left to drain. -/
theorem branchDisableAndDrain : Obligations.BranchDisableAndDrain := by
  refine ⟨?disable, ?drain⟩
  case disable =>
    intro s branch run
    obtain ⟨outside, inside⟩ := State.carryOut_onIndex run rfl branchDisable
    refine ⟨fun far => by rw [exec_branchDisable, outside far], fun b at_b => ?_⟩
    rw [exec_branchDisable, inside b at_b, branchDisable, ← BranchState.working_iff, ← BranchState.not_working_iff]
    exact ⟨fun closed => by rw [if_neg closed], fun works => by rw [if_pos works]; rfl⟩
  case drain =>
    intro s branch d1 d0 run
    rw [exec_branchDrain, State.carryOut_of_executes run rfl]
    refine ⟨fun bad => by rw [branchDrain_of_bad_operand bad], fun b at_b positive =>
      ⟨fun disabled => ?_, fun unfit => ?_, fun enabled live => ?_, fun enabled none_live => ?_⟩⟩
    · rw [branchDrain_of_disabled at_b positive disabled]
    · rw [branchDrain_of_badState at_b positive unfit]
    · obtain ⟨i, r, held, on⟩ := live
      have some_live : s.liveOn b ≠ 0 := fun zero => State.liveOn_eq_zero.1 zero i r held on
      rw [branchDrain_of_enabled at_b positive enabled, State.checkDrained_begun_of_live some_live]
      rfl
    · rw [branchDrain_of_enabled at_b positive enabled,
        State.checkDrained_begun_of_none (State.liveOn_eq_zero.2 none_live)]
      rfl

end Sys2Proof.Machine
end

section
/-! The Notice Queue (sections 8.1 to 8.4): where an arrival finds its place, what the alert path does with a good
ALERT, and what NOTICE_RETIRE finds under an id. -/

namespace Sys2Proof.Machine

/-! ### The place of an arrival -/

theorem Notice.unclaimed_iff {n : Notice} : n.unclaimed = true ↔ n.claim = none := Option.isNone_iff_eq_none

/-- The notice that R133 leaves, its saturating count and its severity written out. -/
theorem Notice.coalesce_eq (arrival held : Notice) :
    arrival.coalesce held =
      { held with
        repeats := if held.repeats = 255 then 255 else held.repeats + 1
        data := arrival.data, globalAddress := arrival.globalAddress
        severity := if held.severity < arrival.severity then arrival.severity else held.severity
        forced := held.forced || arrival.forced } := by
  rw [Notice.coalesce, satInc_eq, severity_max_eq]
  rfl

theorem lowestUnclaimed_eq_some {ns : List Notice} {low : Fin 8} :
    lowestUnclaimed ns = some low ↔
      (∃ m ∈ ns, m.claim = none ∧ m.severity = low) ∧ ∀ m ∈ ns, m.claim = none → low ≤ m.severity := by
  simp only [lowestUnclaimed, List.min?_eq_some_iff, List.mem_map, List.mem_filter, Notice.unclaimed_iff, and_assoc]
  refine and_congr_right' ⟨fun least m held unclaimed => least _ ⟨m, held, unclaimed, rfl⟩, ?_⟩
  rintro least _ ⟨m, held, unclaimed, rfl⟩
  exact least m held unclaimed

theorem replaceable_of_oldest_lowest {ns : List Notice} {i : Nat} {m : Notice} {severity : Fin 8}
    (at_i : ns[i]? = some m) (unclaimed : m.claim = none) (below : m.severity < severity)
    (first : ∀ (j : Nat) (k : Notice), ns[j]? = some k → k.claim = none →
      m.severity ≤ k.severity ∧ (k.severity = m.severity → i ≤ j)) :
    replaceable ns severity = some i := by
  have lowest : lowestUnclaimed ns = some m.severity := by
    refine lowestUnclaimed_eq_some.2 ⟨⟨m, List.mem_of_getElem? at_i, unclaimed, rfl⟩, fun k held free => ?_⟩
    obtain ⟨j, at_j⟩ := List.getElem?_of_mem held
    exact (first j k at_j free).1
  simp only [replaceable, lowest, if_pos below]
  refine findIdx?_of_least at_i (by simp [Notice.unclaimed_iff, unclaimed]) fun j k at_j accepts => ?_
  obtain ⟨free, same⟩ : k.claim = none ∧ k.severity = m.severity := by simpa [Notice.unclaimed_iff] using accepts
  exact (first j k at_j free).2 same

theorem replaceable_of_none_below {ns : List Notice} {severity : Fin 8}
    (none_below : ∀ m ∈ ns, m.claim = none → severity ≤ m.severity) : replaceable ns severity = none := by
  unfold replaceable
  split
  next low found =>
    obtain ⟨⟨m, held, unclaimed, rfl⟩, -⟩ := lowestUnclaimed_eq_some.1 found
    exact if_neg (none_below m held unclaimed).not_gt
  next => rfl

/-! ### What an arrival does to the queue -/

section Arrival

variable {s : State} {n : Notice}

theorem State.arrive_of_source_held {i : Nat} {m : Notice} (at_i : s.notices[i]? = some m) (unclaimed : m.claim = none)
    (same : m.source = n.source)
    (oldest : ∀ (j : Nat) (k : Notice), s.notices[j]? = some k → k.claim = none → k.source = n.source → i ≤ j) :
    s.arrive n = { s with notices := s.notices.set i (n.coalesce m) } := by
  have found : (s.notices.findIdx? fun m => m.unclaimed && m.source == n.source) = some i := by
    refine findIdx?_of_least at_i (by simp [Notice.unclaimed_iff, unclaimed, same]) fun j k at_j accepts => ?_
    obtain ⟨free, source⟩ : k.claim = none ∧ k.source = n.source := by simpa [Notice.unclaimed_iff] using accepts
    exact oldest j k at_j free source
  simp [State.arrive, found, List.modify_eq_set_getElem?, at_i]

variable (new : ∀ m ∈ s.notices, m.claim = none → m.source ≠ n.source)
include new

/-- With no UNCLAIMED notice of the source, R134 decides by the places held. -/
theorem State.arrive_of_source_new :
    s.arrive n =
      if s.notices.length < 16 then { s with notices := s.notices ++ [n] }
      else
        match replaceable s.notices n.severity with
        | some i => { s with notices := s.notices.eraseIdx i ++ [n], lost := satInc s.lost }
        | none => { s with lost := satInc s.lost } := by
  have missing : (s.notices.findIdx? fun m => m.unclaimed && m.source == n.source) = none := by
    simpa [List.findIdx?_eq_none_iff, Notice.unclaimed_iff] using new
  simp only [State.arrive, missing]
  rfl

theorem State.arrive_of_space (space : s.notices.length < 16) : s.arrive n = { s with notices := s.notices ++ [n] } := by
  rw [State.arrive_of_source_new new, if_pos space]

theorem State.arrive_of_replaceable (full : 16 ≤ s.notices.length) {i : Nat}
    (found : replaceable s.notices n.severity = some i) :
    s.arrive n = { s with notices := s.notices.eraseIdx i ++ [n], lost := satInc s.lost } := by
  rw [State.arrive_of_source_new new, if_neg full.not_gt, found]

theorem State.arrive_of_not_replaceable (full : 16 ≤ s.notices.length)
    (none_found : replaceable s.notices n.severity = none) : s.arrive n = { s with lost := satInc s.lost } := by
  rw [State.arrive_of_source_new new, if_neg full.not_gt, none_found]

end Arrival

/-- Settles O41: first by whether an UNCLAIMED notice of the source is held, then by the places held, then by whether a
notice may be replaced. -/
theorem arrivalsCoalesceJoinReplaceOrDrop : Obligations.ArrivalsCoalesceJoinReplaceOrDrop := by
  intro s n offered
  have offered_of_arrive {t : State} (arrived : s.arrive n = t) : offered t := congrArg State.judgeAttention arrived
  refine ⟨fun i m at_i unclaimed same oldest => ?coalesce, fun new => ⟨fun space => ?join, fun full => ?full⟩⟩
  case coalesce =>
    apply offered_of_arrive
    rw [State.arrive_of_source_held at_i unclaimed same oldest, Notice.coalesce_eq]
  case join => exact offered_of_arrive (State.arrive_of_space new space)
  case full =>
    intro lost
    have raised : satInc s.lost = lost := satInc_eq s.lost
    rw [← raised]
    refine ⟨fun i m at_i unclaimed below first => ?replace, fun none_below => ?drop⟩
    case replace =>
      have found := replaceable_of_oldest_lowest at_i unclaimed below first
      exact offered_of_arrive (State.arrive_of_replaceable new full found)
    case drop =>
      exact offered_of_arrive (State.arrive_of_not_replaceable new full (replaceable_of_none_below none_below))

/-! ### The alert path -/

theorem State.receiveBranch_of_good {s : State} {b : Fin 4} (works : (s.branch b).state.working = true) {f : BranchFrame}
    (fits : f.payload.length ≤ 64) : s.receiveBranch b (goodFrame f) = (s.markGood b).classifyBranch b f := by
  simp [State.receiveBranch, works, goodFrame, fits]

theorem localAddressOk_eq_false {a : Byte} (bad : a = 0 ∨ 126 < a.toNat) : localAddressOk a = false := by
  rw [Bool.eq_false_iff, ne_eq, localAddressOk_iff]
  bv_omega

theorem State.classifyBranch_of_bad_address {f : BranchFrame} (bad : f.localAddress = 0 ∨ 126 < f.localAddress.toNat)
    (s : State) (b : Fin 4) : s.classifyBranch b f = s.bumpBranch b .unexpected := by
  simp [State.classifyBranch, localAddressOk_eq_false bad]

theorem State.classifyBranch_of_alert {f : BranchFrame} (legal : localAddressOk f.localAddress = true)
    (alert : f.kind = 3) (s : State) (b : Fin 4) :
    s.classifyBranch b f = (s.bumpBranch b .alertsReceived).alertPath b f.localAddress f.payload := by
  simp [State.classifyBranch, legal, alert]

/-- The reverse lookup reads nothing of a branch's port, so no counting of the frame moves it. -/
theorem State.reverseLookup_setBranch (s : State) (b c : Fin 4) (p : BranchPort) (localAddress : Byte) :
    (s.setBranch b p).reverseLookup c localAddress = s.reverseLookup c localAddress := rfl

/-- What R131 does once the severity of an alert and the global address of its node are known. -/
def State.judgeAlert (s : State) (b : Fin 4) (localAddress : Byte) (payload : List Byte) (severity : Fin 8)
    (address : Option Address) : State :=
  if severity = 0 then s.bumpBranch b .alertsSuppressed
  else s.post (newNotice (.nodeAlert b localAddress) severity address (payload.take 8) false)

theorem State.alertPath_of_mapped {s : State} {b : Fin 4} {localAddress : Byte} {i : Fin 128} {r : LiveRoute}
    (mapped : s.reverseLookup b localAddress = some (i, r)) (payload : List Byte) :
    s.alertPath b localAddress payload =
      s.judgeAlert b localAddress payload r.config.alertSeverity (some r.config.globalAddress) := by
  simp only [State.alertPath, mapped]
  rfl

theorem State.alertPath_of_unmapped {s : State} {b : Fin 4} {localAddress : Byte}
    (unmapped : s.reverseLookup b localAddress = none) (payload : List Byte) :
    s.alertPath b localAddress payload =
      s.judgeAlert b localAddress payload (s.branch b).settings.unmappedSeverity none := by
  simp only [State.alertPath, unmapped]
  rfl

/-- Settles O40: an illegal local address is unexpected; a legal one is judged as its reverse lookup says, which the
counting of the frame leaves as it was. -/
theorem alertsAreSuppressedOrOffered : Obligations.AlertsAreSuppressedOrOffered := by
  intro s b localAddress payload high works fits good handed answers judged
  have received : exec (.alert b localAddress payload) s =
      .next (good.classifyBranch b ⟨3, localAddress, 0, 0, payload⟩) := by
    rw [exec_alert, State.running_of_high high, State.receiveBranch_of_good works fits]
    rfl
  refine ⟨fun bad => ?illegal, fun nonzero small => ?legal⟩
  case illegal =>
    simp only [answers, received, State.classifyBranch_of_bad_address (f := ⟨3, localAddress, 0, 0, payload⟩) bad]
  case legal =>
    have ok : localAddressOk localAddress = true := localAddressOk_iff.2 ⟨one_le_toNat_iff.2 nonzero, small⟩
    rw [State.classifyBranch_of_alert (f := ⟨3, localAddress, 0, 0, payload⟩) ok rfl] at received
    have judged_of_path {severity : Fin 8} {address : Option Address}
        (path : handed.alertPath b localAddress payload =
          handed.judgeAlert b localAddress payload severity address) : judged severity address := by
      refine ⟨fun zero => ?_, fun nonzero => ?_⟩
      · exact received.trans (congrArg Host.Outcome.next (path.trans (if_pos zero)))
      · exact received.trans (congrArg Host.Outcome.next (path.trans (if_neg nonzero)))
    have lookup : handed.reverseLookup b localAddress = s.reverseLookup b localAddress := by
      simp only [handed, good, State.bumpBranch, State.reverseLookup_setBranch]
    have settings : (handed.branch b).settings = (s.branch b).settings := by
      simp [handed, good, State.bumpBranch, BranchPort.bump]
    refine ⟨fun i r mapped => ?mapped, fun unmapped => ?unmapped⟩
    case mapped => exact judged_of_path (State.alertPath_of_mapped (lookup.trans mapped) payload)
    case unmapped =>
      rw [← settings]
      exact judged_of_path (State.alertPath_of_unmapped (lookup.trans unmapped) payload)

/-! ### NOTICE_RETIRE -/

theorem exec_noticeRetire (s : State) : exec .noticeRetire s = .next (s.carryOut 0x61 noticeRetire) := rfl

theorem Notice.claimedAs_iff {id : Byte} {n : Notice} :
    n.claimedAs id = true ↔ ∃ c, n.claim = some c ∧ c.id = id := by
  cases claim : n.claim <;> simp [Notice.claimedAs, claim]

theorem noticeRetire_of_claimed {s : State} {id : Byte} {i : Nat} {n : Notice} {c : Claim}
    (at_i : s.notices[i]? = some n) (claimed : n.claim = some c) (same : c.id = id)
    (oldest : ∀ (j : Nat) (m : Notice) (d : Claim), s.notices[j]? = some m → m.claim = some d → d.id = id → i ≤ j) :
    noticeRetire [id] s = State.answer { s with notices := s.notices.eraseIdx i } .done [] := by
  have found : s.notices.findIdx? (Notice.claimedAs id) = some i := by
    refine findIdx?_of_least at_i (Notice.claimedAs_iff.2 ⟨c, claimed, same⟩) fun j m at_j accepts => ?_
    obtain ⟨d, held, id_eq⟩ := Notice.claimedAs_iff.1 accepts
    exact oldest j m d at_j held id_eq
  simp only [noticeRetire, found]

/-- With no notice CLAIMED under the id, R137 looks for the id among the lapsed ones. -/
theorem noticeRetire_of_unclaimed {s : State} {id : Byte}
    (unheld : ∀ n ∈ s.notices, ∀ c, n.claim = some c → c.id ≠ id) :
    noticeRetire [id] s =
      if ∃ n ∈ s.notices, n.previousId = some id then s.answer .staleClaim [] else s.answer .notFound [] := by
  have missing : s.notices.findIdx? (Notice.claimedAs id) = none := by
    refine List.findIdx?_eq_none_iff.2 fun n held => Bool.eq_false_of_not_eq_true fun accepts => ?_
    obtain ⟨c, claimed, same⟩ := Notice.claimedAs_iff.1 accepts
    exact unheld n held c claimed same
  simp only [noticeRetire, missing, List.any_eq_true, beq_iff_eq]

/-- A CLAIMED notice calls for no attention, so its removal leaves the condition. -/
theorem any_calls_eraseIdx_of_claimed {ns : List Notice} {i : Nat} {n : Notice} {c : Claim} (at_i : ns[i]? = some n)
    (claimed : n.claim = some c) (threshold : Fin 8) :
    (ns.eraseIdx i).any (Notice.calls threshold) = ns.any (Notice.calls threshold) := by
  obtain ⟨lt, rfl⟩ := List.getElem?_eq_some_iff.1 at_i
  have silent : Notice.calls threshold ns[i] = false := by simp [Notice.calls, Notice.unclaimed, claimed]
  rw [← (List.getElem_cons_eraseIdx_perm lt).any_eq, List.any_cons, silent, Bool.false_or]

/-- Settles O44: the oldest notice CLAIMED under the id is removed; without one, the answer is by whether the id is a
notice's previous one. -/
theorem retireRemovesTheOldestClaimOfTheId : Obligations.RetireRemovesTheOldestClaimOfTheId := by
  intro s id run
  rw [exec_noticeRetire, State.carryOut_of_executes run rfl]
  refine ⟨fun i n c at_i claimed same oldest => ?claimed, fun unheld => ⟨fun stale => ?stale, fun unknown => ?unknown⟩⟩
  case claimed =>
    refine ⟨_, congrArg Host.Outcome.next (noticeRetire_of_claimed at_i claimed same oldest), rfl, ?_⟩
    simpa [State.attentionCondition] using any_calls_eraseIdx_of_claimed at_i claimed s.threshold
  case stale => rw [noticeRetire_of_unclaimed unheld, if_pos stale]
  case unknown => rw [noticeRetire_of_unclaimed unheld, if_neg (by simpa using unknown)]

end Sys2Proof.Machine
end

section
/-! MANAGE frames and the taking of requests (sections 9.1 and 10.2): what the Management Input Queue does with a frame
by the Agent's state, and what the Agent takes. -/

namespace Sys2Proof.Machine

/-! ### MANAGE frames -/

theorem exec_manage (address : Address) (tag code : Byte) (payload : List Byte) (s : State) :
    exec (.manage address tag code payload) s =
      .next (s.running fun s => s.receiveGood payload fun s => s.takeManage address ⟨tag, code, payload⟩) := rfl

theorem exec_takeRequest (s : State) : exec .takeRequest s = .next (s.running State.takeRequest) := rfl

/-- A good MANAGE frame is counted and then taken (R145). -/
theorem exec_manage_of_good {s : State} {payload : List Byte} (high : s.resetLow = false) (fits : payload.length ≤ 96)
    (address : Address) (tag code : Byte) :
    exec (.manage address tag code payload) s =
      .next ((s.bumpTrunk .goodFrames).takeManage address ⟨tag, code, payload⟩) := by
  rw [exec_manage, State.running_of_high high, State.receiveGood_of_le fits]

section Queue

variable {s : State}

theorem State.agentNext_of_empty (empty : s.inq = []) : s.agentNext = { s with agent := .idle } := by
  simp only [State.agentNext, empty]

theorem State.agentNext_of_head {q : ManageRequest} {rest : List ManageRequest} (head : s.inq = q :: rest) :
    s.agentNext =
      if framesIn .pool s.toq < 8 then { s with inq := rest, agent := .executing q }
      else { s with agent := .waiting } := by
  simp only [State.agentNext, head, State.poolFree_iff]
  rfl

variable (q : ManageRequest)

theorem State.takeManage_of_other {address : Address} (other : address ≠ s.ownAddress) :
    s.takeManage address q = s.bumpTrunk .misaddressed :=
  if_neg other

theorem State.takeManage_of_own {address : Address} (own : address = s.ownAddress) :
    s.takeManage address q = s.enterManage q :=
  if_pos own

theorem State.enterManage_of_full (full : 4 ≤ s.inq.length) :
    s.enterManage q = s.joinOrDrop (buildTrunk kindManageReply s.ownAddress q.tag Result.busy.code []) :=
  if_neg (Nat.not_lt.2 full)

/-- An IDLE Agent takes the frame at once where a pool place is free, and otherwise the frame waits (R159). -/
theorem State.enterManage_of_idle (idle : s.agent = .idle) (empty : s.inq = []) :
    s.enterManage q =
      if framesIn .pool s.toq < 8 then { s with agent := .executing q }
      else { s with inq := [q], agent := .waiting } := by
  have entered : s.enterManage q = State.agentNext { s with inq := [q] } := by
    simp [State.enterManage, empty, idle, Config.inputPlaces]
  rw [entered, State.agentNext_of_head (q := q) (rest := []) rfl, ← empty]

theorem State.enterManage_of_not_idle (space : s.inq.length < 4) (busy : s.agent ≠ .idle) :
    s.enterManage q = { s with inq := s.inq ++ [q] } := by
  refine (if_pos space).trans ?_
  cases agent : s.agent with
  | idle => exact absurd agent busy
  | waiting => rfl
  | executing request => rfl

/-- With no request in execution TAKE_REQUEST goes on as after a reply (R159). -/
theorem State.takeRequest_of_not_executing (free : ∀ q, s.agent ≠ .executing q) : s.takeRequest = s.agentNext := by
  unfold State.takeRequest
  split
  next q executing => exact absurd executing (free q)
  next => rfl
  next => rfl

end Queue

/-- Settles O8: a MANAGE frame by its address, the frames that wait and the Agent's state; a taking by the queue and the
pool places taken. -/
theorem manageFramesQueueAndTheAgentTakesThem : Obligations.ManageFramesQueueAndTheAgentTakesThem := by
  constructor
  · intro s address tag code payload high fits good frame
    have taken : exec (.manage address tag code payload) s = .next (good.takeManage address frame) :=
      exec_manage_of_good high fits address tag code
    have entered (own : address = s.ownAddress) :
        exec (.manage address tag code payload) s = .next (good.enterManage frame) :=
      taken.trans (congrArg _ (State.takeManage_of_own frame own))
    refine ⟨fun other => ?other, fun own space => ⟨fun idle empty => ?idle, fun busy => ?busy⟩, fun own full => ?full⟩
    case other => exact taken.trans (congrArg _ (State.takeManage_of_other frame other))
    case idle => exact (entered own).trans (congrArg _ (State.enterManage_of_idle frame idle empty))
    case busy => exact (entered own).trans (congrArg _ (State.enterManage_of_not_idle frame space busy))
    case full => exact (entered own).trans (congrArg _ (State.enterManage_of_full frame full))
  · intro s high free
    rw [exec_takeRequest, State.running_of_high high, State.takeRequest_of_not_executing free]
    refine ⟨fun empty => ?empty, fun q rest head places => ?taken, fun q rest head full => ?waits⟩
    case empty => rw [State.agentNext_of_empty empty]
    case taken => rw [State.agentNext_of_head head, if_pos places]
    case waits => rw [State.agentNext_of_head head, if_neg (Nat.not_lt.2 full)]

end Sys2Proof.Machine
end

section
/-! HOLD and RELEASE (section 9.3): what they do in each transmitter state, what every operation of the part leaves of a
HELD period, and so which commands can end one. -/

namespace Sys2Proof.Machine

/-! ### HOLD and RELEASE in each transmitter state -/

/-- A good HOLD frame is counted and then acts (R145). -/
theorem exec_hold_of_high {s : State} (high : s.resetLow = false) (address : Address) :
    exec (.hold address) s = .next ((s.bumpTrunk .goodFrames).takeHold address) :=
  congrArg _ (State.running_of_high high _)

/-- A good RELEASE frame is counted and then acts (R145). -/
theorem exec_release_of_high {s : State} (high : s.resetLow = false) (address : Address) :
    exec (.release address) s = .next ((s.bumpTrunk .goodFrames).takeRelease address) :=
  congrArg _ (State.running_of_high high _)

theorem State.takeHold_of_other {s : State} {address : Address} (other : address ≠ s.ownAddress) :
    s.takeHold address = s :=
  if_neg other

theorem State.takeRelease_of_other {s : State} {address : Address} (other : address ≠ s.ownAddress) :
    s.takeRelease address = s :=
  if_neg other

/-- A transmitter state written over itself changes nothing. -/
theorem State.with_tx_self {s : State} {tx : TrunkTx} (same : s.tx = tx) : { s with tx := tx } = s := by
  subst same
  rfl

section Pacing

variable {s : State} {address : Address} {before : TrunkTx} (own : address = s.ownAddress) (tx : s.tx = before)
include own tx

theorem State.takeHold_of_own : s.takeHold address = { s with tx := before.hold } := by
  rw [State.takeHold, if_pos own, tx]

theorem State.takeRelease_of_own {waiting : Bool} (more : (!s.toq.isEmpty) = waiting) :
    s.takeRelease address = { s with tx := before.release waiting } := by
  rw [State.takeRelease, if_pos own, tx, more]

variable (high : s.resetLow = false)
include high

theorem exec_hold_of_own : exec (.hold address) s = .next { s.bumpTrunk .goodFrames with tx := before.hold } :=
  (exec_hold_of_high high address).trans (congrArg _ (State.takeHold_of_own (s := s.bumpTrunk .goodFrames) own tx))

theorem exec_hold_of_same (same : before.hold = before) : exec (.hold address) s = .next (s.bumpTrunk .goodFrames) :=
  (exec_hold_of_own own tx high).trans
    (congrArg _ (State.with_tx_self (s := s.bumpTrunk .goodFrames) (tx.trans same.symm)))

theorem exec_release_of_own {waiting : Bool} (more : (!s.toq.isEmpty) = waiting) :
    exec (.release address) s = .next { s.bumpTrunk .goodFrames with tx := before.release waiting } :=
  (exec_release_of_high high address).trans
    (congrArg _ (State.takeRelease_of_own (s := s.bumpTrunk .goodFrames) own tx more))

theorem exec_release_of_same (same : ∀ waiting, before.release waiting = before) :
    exec (.release address) s = .next (s.bumpTrunk .goodFrames) :=
  (exec_release_of_own own tx high rfl).trans
    (congrArg _ (State.with_tx_self (s := s.bumpTrunk .goodFrames) (tx.trans (same _).symm)))

end Pacing

/-! ### Operations that leave a HELD period as it is -/

/-- A frame that joins begins an IDLE transmitter and leaves a HELD one. -/
@[simp] theorem TrunkTx.isHeld_begin (tx : TrunkTx) : (if tx = .idle then .sending else tx).isHeld = tx.isHeld := by
  cases tx <;> rfl

/-- The end of a transmission in a HELD period leaves it HELD (R151). -/
@[simp] theorem TrunkTx.isHeld_next (waiting : Bool) (tx : TrunkTx) : (tx.next waiting).isHeld = tx.isHeld := by
  cases tx <;> cases waiting <;> rfl

theorem TrunkTx.isHeld_hold (tx : TrunkTx) : tx.hold.isHeld = true := by
  cases tx <;> rfl

section Operations

variable (s : State)

@[simp] theorem State.joinOrDrop_isHeld (f : TrunkFrame) : (s.joinOrDrop f).tx.isHeld = s.tx.isHeld := by
  rcases s.joinOrDrop_cases f with ⟨-, joined⟩ | ⟨-, dropped⟩
  · simp [joined]
  · simp [dropped]

@[simp] theorem State.requestAttention_isHeld : s.requestAttention.tx.isHeld = s.tx.isHeld := by
  rcases s.requestAttention_cases with ⟨-, same⟩ | ⟨-, -, joined⟩ | ⟨-, -, waits⟩
  · rw [same]
  · simp [joined]
  · rw [waits]

@[simp] theorem State.judgeAttention_isHeld : s.judgeAttention.tx.isHeld = s.tx.isHeld := by
  unfold State.judgeAttention
  split
  · split <;> simp
  · rfl

@[simp] theorem State.post_isHeld (n : Notice) : (s.post n).tx.isHeld = s.tx.isHeld := by
  simp [State.post]

@[simp] theorem State.reportTimeout_isHeld (snap : Snapshot) : (s.reportTimeout snap).tx.isHeld = s.tx.isHeld := by
  simp only [State.reportTimeout]
  split
  · split <;> simp [State.setLive]
  · rfl

@[simp] theorem State.endRecord_isHeld (slot : Fin 32) (r : Record) (e : Ending) :
    (s.endRecord slot r e).tx.isHeld = s.tx.isHeld := by
  rw [State.endRecord, State.reportEnding_eq]
  split <;> simp

@[simp] theorem State.checkDrained_isHeld (b : Fin 4) : (s.checkDrained b).tx.isHeld = s.tx.isHeld := by
  unfold State.checkDrained
  split <;> simp [State.setBranchState]

@[simp] theorem State.endTransaction_isHeld (slot : Fin 32) (r : Record) (e : Ending) :
    (s.endTransaction slot r e).tx.isHeld = s.tx.isHeld := by
  simp [State.endTransaction]

@[simp] theorem State.endSlotOf_isHeld (b : Fin 4) (e : Ending) (slot : Fin 32) :
    (State.endSlotOf b e s slot).tx.isHeld = s.tx.isHeld := by
  unfold State.endSlotOf
  split
  · split <;> simp
  · rfl

@[simp] theorem State.endBranchRecords_isHeld (b : Fin 4) (e : Ending) :
    (s.endBranchRecords b e).tx.isHeld = s.tx.isHeld :=
  State.foldl_keeps (·.tx.isHeld) _ (fun s slot => s.endSlotOf_isHeld b e slot) _ _

@[simp] theorem State.faultBranch_isHeld (b : Fin 4) : (s.faultBranch b).tx.isHeld = s.tx.isHeld := by
  simp [State.faultBranch, State.setBranchState]

@[simp] theorem State.advance_isHeld (slot : Fin 32) (r : Record) : (s.advance slot r).tx.isHeld = s.tx.isHeld := by
  unfold State.advance
  split <;> simp

@[simp] theorem State.takeAnswer_isHeld (slot : Fin 32) (r : Record) (status : Byte) (payload : List Byte) :
    (s.takeAnswer slot r status payload).tx.isHeld = s.tx.isHeld := by
  simp only [State.takeAnswer]
  split <;> simp

@[simp] theorem State.answer_isHeld (result : Result) (payload : List Byte) :
    (s.answer result payload).tx.isHeld = s.tx.isHeld := by
  unfold State.answer
  split <;> simp

theorem State.carryOut_isHeld (code : Byte) {act : List Byte → State → State}
    (keeps : ∀ payload s, (act payload s).tx.isHeld = s.tx.isHeld) :
    (s.carryOut code act).tx.isHeld = s.tx.isHeld := by
  rcases s.carryOut_cases code act with same | ⟨q, -, -, -, ⟨-, misfit⟩ | ⟨-, acted⟩⟩
  · rw [same]
  · rw [misfit, State.answer_isHeld]
  · rw [acted, keeps]

theorem State.running_isHeld {act : State → State} (keeps : (act s).tx.isHeld = s.tx.isHeld) :
    (s.running act).tx.isHeld = s.tx.isHeld := by
  unfold State.running
  split
  · rfl
  · exact keeps

end Operations

/-! ### The management requests -/

section Requests

variable (s : State) (payload : List Byte)

theorem onIndex_isHeld {n : Nat} {act : Fin n → State → State} (keeps : ∀ i s, (act i s).tx.isHeld = s.tx.isHeld) :
    (onIndex n act payload s).tx.isHeld = s.tx.isHeld := by
  unfold onIndex
  repeat' split
  all_goals simp [keeps]

@[simp] theorem counterRead_isHeld : (counterRead payload s).tx.isHeld = s.tx.isHeld := by
  unfold counterRead
  repeat' split
  all_goals simp

@[simp] theorem setOwnAddress_isHeld : (setOwnAddress payload s).tx.isHeld = s.tx.isHeld := by
  unfold setOwnAddress
  repeat' split
  all_goals simp

@[simp] theorem routeWrite_isHeld : (routeWrite payload s).tx.isHeld = s.tx.isHeld := by
  unfold routeWrite
  repeat' split
  all_goals simp

@[simp] theorem routeDelete_isHeld (i : Fin 128) : (routeDelete i s).tx.isHeld = s.tx.isHeld := by
  unfold routeDelete
  split <;> simp

@[simp] theorem routeReinstate_isHeld (i : Fin 128) : (routeReinstate i s).tx.isHeld = s.tx.isHeld := by
  unfold routeReinstate
  split <;> simp [State.setLive]

@[simp] theorem profileWrite_isHeld : (profileWrite payload s).tx.isHeld = s.tx.isHeld := by
  unfold profileWrite
  repeat' split
  all_goals simp

@[simp] theorem recipeWrite_isHeld : (recipeWrite payload s).tx.isHeld = s.tx.isHeld := by
  unfold recipeWrite
  repeat' split
  all_goals simp

@[simp] theorem recipeClear_isHeld (k : Fin 32) : (recipeClear k s).tx.isHeld = s.tx.isHeld := by
  unfold recipeClear
  repeat' split
  all_goals simp

@[simp] theorem constWrite_isHeld : (constWrite payload s).tx.isHeld = s.tx.isHeld := by
  unfold constWrite
  repeat' split
  all_goals simp

@[simp] theorem branchConfig_isHeld : (branchConfig payload s).tx.isHeld = s.tx.isHeld := by
  unfold branchConfig
  repeat' split
  all_goals simp

@[simp] theorem branchEnable_isHeld (b : Fin 4) : (branchEnable b s).tx.isHeld = s.tx.isHeld := by
  unfold branchEnable
  split <;> simp

@[simp] theorem branchDisable_isHeld (b : Fin 4) : (branchDisable b s).tx.isHeld = s.tx.isHeld := by
  unfold branchDisable
  split <;> simp [State.setBranchState]

@[simp] theorem branchDrain_isHeld : (branchDrain payload s).tx.isHeld = s.tx.isHeld := by
  unfold branchDrain
  repeat' split
  all_goals simp [State.setBranchState]

@[simp] theorem transactionAbort_isHeld : (transactionAbort payload s).tx.isHeld = s.tx.isHeld := by
  unfold transactionAbort
  repeat' split
  all_goals simp

@[simp] theorem noticeClaim_isHeld : (noticeClaim payload s).tx.isHeld = s.tx.isHeld := by
  unfold noticeClaim
  repeat' split
  all_goals simp

@[simp] theorem noticeRetire_isHeld : (noticeRetire payload s).tx.isHeld = s.tx.isHeld := by
  unfold noticeRetire
  repeat' split
  all_goals simp

@[simp] theorem noticeSettings_isHeld : (noticeSettings payload s).tx.isHeld = s.tx.isHeld := by
  unfold noticeSettings
  repeat' split
  all_goals simp

@[simp] theorem State.freshAttention_isHeld : s.freshAttention.tx.isHeld = s.tx.isHeld := by
  unfold State.freshAttention
  split <;> simp

theorem softReset_isHeld {scope : Byte → Bool} {act : State → State}
    (keeps : ∀ s, (act s).tx.isHeld = s.tx.isHeld) : (softReset scope act payload s).tx.isHeld = s.tx.isHeld := by
  unfold softReset
  repeat' split
  all_goals simp [keeps]

/-- No soft reset touches the transmitter (R157). -/
@[simp] theorem State.afterTraffic_tx : s.afterTraffic.tx = s.tx := rfl
@[simp] theorem State.afterFull_tx : s.afterFull.tx = s.tx := rfl

end Requests

/-! ### The traffic of the links and the timers -/

section Traffic

variable (s : State)

@[simp] theorem State.admission_isHeld (q : TrunkRequest) : (s.admission q).tx.isHeld = s.tx.isHeld := by
  unfold State.admission State.createRecord
  repeat' split
  all_goals simp [State.refuse]

@[simp] theorem State.enterManage_isHeld (q : ManageRequest) : (s.enterManage q).tx.isHeld = s.tx.isHeld := by
  unfold State.enterManage
  split
  · dsimp only
    split <;> simp
  · simp

@[simp] theorem State.takeManage_isHeld (address : Address) (q : ManageRequest) :
    (s.takeManage address q).tx.isHeld = s.tx.isHeld := by
  unfold State.takeManage
  split <;> simp

@[simp] theorem State.endTransmission_isHeld : s.endTransmission.tx.isHeld = s.tx.isHeld := by
  unfold State.endTransmission
  split <;> simp

@[simp] theorem State.resolvePending_isHeld : s.resolvePending.tx.isHeld = s.tx.isHeld := by
  unfold State.resolvePending
  repeat' split
  all_goals simp

@[simp] theorem State.takeRequest_isHeld : s.takeRequest.tx.isHeld = s.tx.isHeld := by
  unfold State.takeRequest
  split <;> simp

theorem State.receiveGood_isHeld (payload : List Byte) {act : State → State}
    (keeps : ∀ s, (act s).tx.isHeld = s.tx.isHeld) : (s.receiveGood payload act).tx.isHeld = s.tx.isHeld := by
  unfold State.receiveGood
  split <;> simp [keeps]

@[simp] theorem State.takeBad_isHeld (b : Fin 4) : (s.takeBad b).tx.isHeld = s.tx.isHeld := by
  simp only [State.takeBad]
  split <;> simp

@[simp] theorem State.takeResponse_isHeld (b : Fin 4) (localAddress : Byte) (n : Fin 16) (status : Byte)
    (payload : List Byte) : (s.takeResponse b localAddress n status payload).tx.isHeld = s.tx.isHeld := by
  unfold State.takeResponse
  repeat' split
  all_goals simp [State.setTag]

@[simp] theorem State.judgeAlert_isHeld (b : Fin 4) (localAddress : Byte) (payload : List Byte) (severity : Fin 8)
    (address : Option Address) :
    (s.judgeAlert b localAddress payload severity address).tx.isHeld = s.tx.isHeld := by
  unfold State.judgeAlert
  split <;> simp

@[simp] theorem State.alertPath_isHeld (b : Fin 4) (localAddress : Byte) (payload : List Byte) :
    (s.alertPath b localAddress payload).tx.isHeld = s.tx.isHeld := by
  cases found : s.reverseLookup b localAddress with
  | none => rw [State.alertPath_of_unmapped found, State.judgeAlert_isHeld]
  | some entry => rw [State.alertPath_of_mapped found, State.judgeAlert_isHeld]

@[simp] theorem State.classifyBranch_isHeld (b : Fin 4) (f : BranchFrame) :
    (s.classifyBranch b f).tx.isHeld = s.tx.isHeld := by
  unfold State.classifyBranch
  repeat' split
  all_goals simp

@[simp] theorem State.receiveBranch_isHeld (b : Fin 4) (frame : Option BranchFrame) :
    (s.receiveBranch b frame).tx.isHeld = s.tx.isHeld := by
  unfold State.receiveBranch
  repeat' split
  all_goals simp [State.markGood]

@[simp] theorem State.scheduleRecord_isHeld (b : Fin 4) (slot : Fin 32) (r : Record) :
    (s.scheduleRecord b slot r).tx.isHeld = s.tx.isHeld := by
  unfold State.scheduleRecord
  repeat' split
  all_goals simp [State.issue]

@[simp] theorem State.startTimer_isHeld (b : Fin 4) (n : Fin 16) : (s.startTimer b n).tx.isHeld = s.tx.isHeld := by
  unfold State.startTimer
  repeat' split
  all_goals simp

@[simp] theorem State.timeOut_isHeld (slot : Fin 32) (r : Record) : (s.timeOut slot r).tx.isHeld = s.tx.isHeld := by
  unfold State.timeOut
  split <;> simp

@[simp] theorem State.expireLease_isHeld (place : Nat) : (s.expireLease place).tx.isHeld = s.tx.isHeld := by
  unfold State.expireLease
  repeat' split
  all_goals simp

@[simp] theorem State.endHardReset_isHeld (straps : BitVec 4) : (s.endHardReset straps).tx.isHeld = s.tx.isHeld := by
  unfold State.endHardReset
  split <;> rfl

end Traffic

/-! ### The commands that can end a HELD period -/

/-- Every command but four leaves the transmitter HELD where it was HELD, and only there. -/
theorem exec_isHeld (c : Instr) (s : State) :
    (∃ t, exec c s = .next t ∧ t.tx.isHeld = s.tx.isHeld) ∨ c = .hardReset ∨ (∃ content, c = .trunkFrame content) ∨
      (∃ address, c = .hold address) ∨ ∃ address, c = .release address := by
  cases c with
  | hardReset | trunkFrame content | hold address | release address => simp
  | request flags address tag op payload | manage address tag code payload =>
    exact .inl ⟨_, rfl, s.running_isHeld (s.receiveGood_isHeld payload fun u => by simp)⟩
  | trunkTransmissionEnd | pendingRequestResolved | takeRequest | branchFrame | branchResponse | alert | leaseExpiry =>
    exact .inl ⟨_, rfl, s.running_isHeld (by simp)⟩
  | unknownManagementCode | schedulerIssue | branchTransmissionEnd | exchangeTimerExpiry | spacingExpiry | pauseExpiry
  | coolDeadlineExpiry | drainDeadlineExpiry =>
    refine .inl ⟨_, rfl, s.running_isHeld ?_⟩
    repeat' split
    all_goals simp [State.setTag, State.setBranchState]
  | statusRead | counterRead | setOwnAddress | routeWrite | profileWrite | recipeWrite | constWrite | branchConfig
  | branchDrain | transactionAbort | pendingRead | noticeClaim | noticeRetire | noticeSettings =>
    exact .inl ⟨_, rfl, s.carryOut_isHeld _ fun payload u => by simp⟩
  | routeRead | routeDelete | routeReinstate | profileRead | recipeRead | recipeClear | constRead | branchEnable
  | branchDisable =>
    exact .inl ⟨_, rfl, s.carryOut_isHeld _ fun payload u => onIndex_isHeld u payload fun i v => by
      simp [routeRead, profileRead, recipeRead, constRead]⟩
  | softResetTraffic | softResetFull | softResetBadValue =>
    exact .inl ⟨_, rfl, s.carryOut_isHeld _ fun payload u => softReset_isHeld u payload fun v => by simp⟩
  | hardResetEnd straps => exact .inl ⟨_, rfl, s.endHardReset_isHeld straps⟩

section Held

variable {s : State} (held : s.tx.isHeld = true)
include held

theorem State.takeHold_stays_held (address : Address) : (s.takeHold address).tx.isHeld = true := by
  unfold State.takeHold
  split
  · exact s.tx.isHeld_hold
  · exact held

/-- A good frame ends a HELD period only as a RELEASE to the own address. -/
theorem State.classifyTrunk_stays_held {f : TrunkFrame} (other : ¬(f.kind = kindRelease ∧ f.address = s.ownAddress)) :
    (s.classifyTrunk f).tx.isHeld = true := by
  unfold State.classifyTrunk
  split
  · simpa using held
  split
  · simpa using held
  split
  · exact State.takeHold_stays_held held f.address
  split
  next release => rwa [State.takeRelease_of_other fun own => other ⟨release, own⟩]
  · exact held

/-- Content that ends a HELD period is that of a good RELEASE to the own address (R145, R150). -/
theorem State.eq_content_of_receiveTrunk {content : List Byte} (ended : (s.receiveTrunk content).tx.isHeld = false) :
    ∃ (flags : BitVec 4) (tag code : Byte) (payload : List Byte), payload.length ≤ 96 ∧
      let body := trunkBody kindRelease flags s.ownAddress tag code payload
      content = body ++ [(trunkCheck body).extractLsb' 8 8, (trunkCheck body).extractLsb' 0 8] := by
  unfold State.receiveTrunk at ended
  split at ended
  next f read =>
    obtain ⟨kind, address⟩ : f.kind = kindRelease ∧ f.address = s.ownAddress := by
      by_contra other
      have still := State.classifyTrunk_stays_held (s := s.bumpTrunk .goodFrames) held other
      exact absurd (still.symm.trans ended) (by decide)
    obtain ⟨fits, check, whole⟩ := readTrunk_eq_some.1 read
    rw [kind, address] at check whole
    rw [check] at whole
    exact ⟨f.flags, f.tag, f.code, f.payload, fits, whole⟩
  next => exact absurd (held.symm.trans ended) (by decide)

end Held

/-- While RESET# is low a frame changes nothing, so what changes the transmitter came while it was high. -/
theorem State.high_of_running_isHeld {s : State} {act : State → State}
    (changed : (s.running act).tx.isHeld ≠ s.tx.isHeld) : s.resetLow = false := by
  by_contra low
  exact changed (by rw [State.running_of_low (by simpa using low)])

/-- Settles O6: HOLD and RELEASE by the address and the transmitter's state; of the four commands that `exec_isHeld`
leaves open, HOLD ends no HELD period, and a frame's content only as that of a RELEASE. -/
theorem holdAndReleasePaceTheTransmitter : Obligations.HoldAndReleasePaceTheTransmitter := by
  constructor
  · intro s address high good
    refine ⟨fun other => ?other, fun own => ⟨fun idle => ?idle, fun sending => ?sending, fun finishing held => ?held,
      fun finishing => ?finishing, fun stopped waiting => ?waiting, fun stopped empty => ?empty⟩⟩
    case other =>
      rw [exec_hold_of_high high, exec_release_of_high high]
      exact ⟨congrArg _ (State.takeHold_of_other other), congrArg _ (State.takeRelease_of_other other)⟩
    case idle => exact ⟨exec_hold_of_own own idle high, exec_release_of_same own idle high fun _ => rfl⟩
    case sending => exact ⟨exec_hold_of_own own sending high, exec_release_of_same own sending high fun _ => rfl⟩
    case held => exact exec_hold_of_same own held high rfl
    case finishing => exact exec_release_of_own own finishing high rfl
    case waiting => exact exec_release_of_own own stopped high (waiting := true) (by simpa using waiting)
    case empty => exact exec_release_of_own own stopped high (waiting := false) (by simpa using empty)
  · intro c s t next held ended
    have changed {u : State} (is : exec c s = .next u) : u.tx.isHeld ≠ s.tx.isHeld := by
      rw [Host.Outcome.next.inj (is.symm.trans next), held, ended]
      decide
    rcases exec_isHeld c s with ⟨u, is, same⟩ | rfl | ⟨content, rfl⟩ | ⟨address, rfl⟩ | ⟨address, rfl⟩
    case inl => exact absurd same (changed is)
    case inr.inl => exact .inl rfl
    all_goals have high : s.resetLow = false := State.high_of_running_isHeld (changed rfl)
    case inr.inr.inl =>
      have received : t = s.receiveTrunk content :=
        Host.Outcome.next.inj (next.symm.trans (congrArg _ (State.running_of_high high _)))
      rw [received] at ended
      obtain ⟨flags, tag, code, payload, fits, whole⟩ := State.eq_content_of_receiveTrunk held ended
      exact .inr ⟨high, .inr ⟨flags, tag, code, payload, fits, congrArg _ whole⟩⟩
    case inr.inr.inr.inl =>
      have stays := State.takeHold_stays_held (s := s.bumpTrunk .goodFrames) held address
      exact absurd (stays.trans held.symm) (changed (exec_hold_of_high high address))
    case inr.inr.inr.inr =>
      refine .inr ⟨high, .inl (congrArg _ ?_)⟩
      by_contra other
      have stays := State.takeRelease_of_other (s := s.bumpTrunk .goodFrames) other
      exact changed (exec_release_of_high high address) (congrArg (·.tx.isHeld) stays)

end Sys2Proof.Machine
end

section
/-! STATUS_READ and COUNTER_READ (sections 10.4 and 10.5): the bytes of the status record, and what COUNTER_READ does by
its group byte and its clear flag. -/

namespace Sys2Proof.Machine

/-! ### COUNTER_READ -/

theorem exec_counterRead (s : State) : exec .counterRead s = .next (s.carryOut 0x02 counterRead) := rfl

section Counters

variable {group clear : Byte} (s : State)

theorem counterRead_of_bad_operand (bad : 4 < group.toNat ∨ 1 < clear.toNat) :
    counterRead [group, clear] s = s.answer .badValue [] :=
  if_pos bad

/-- Group 0 is the trunk's. -/
theorem counterRead_of_trunk (flag : clear.toNat ≤ 1) :
    counterRead [0, clear] s =
      State.answer (if clear = 1 then { s with trunkCounters := Vector.replicate 16 0 } else s) .done
        (0 :: (List.finRange 16).flatMap fun n => bytesOf (look s.trunkCounters n)) := by
  have no_branch : index? 4 ((0 : Byte) - 1) = none := index?_eq_none.2 (by decide)
  have good : ¬(4 < (0 : Byte).toNat ∨ 1 < clear.toNat) := not_or.2 ⟨by decide, Nat.not_lt.2 flag⟩
  simp only [counterRead, if_neg good, no_branch, counterBytes_eq]

/-- Group `b + 1` is branch `b`'s. -/
theorem counterRead_of_branch {b : Fin 4} (names : group.toNat = b.val + 1) (flag : clear.toNat ≤ 1) :
    counterRead [group, clear] s =
      State.answer
        (if clear = 1 then s.setBranch b { s.branch b with counters := Vector.replicate 10 0 } else s) .done
        (group :: (List.finRange 10).flatMap fun n => bytesOf (look (s.branch b).counters n)) := by
  have branch : index? 4 (group - 1) = some b := index?_eq_some.2 (by bv_omega)
  have good : ¬(4 < group.toNat ∨ 1 < clear.toNat) := by omega
  simp only [counterRead, if_neg good, branch, counterBytes_eq]

end Counters

/-- Settles O12: a bad operand, the trunk group and a branch's group. -/
theorem counterReadReportsAndClearsOneGroup : Obligations.CounterReadReportsAndClearsOneGroup := by
  intro s group clear run
  rw [exec_counterRead, State.carryOut_of_executes run rfl]
  refine ⟨fun bad => ?bad, fun trunk flag => ?trunk, fun b names flag => ?branch⟩
  case bad => rw [counterRead_of_bad_operand s bad]
  case trunk => rw [trunk, counterRead_of_trunk s flag]
  case branch => rw [counterRead_of_branch s names flag]

/-! ### STATUS_READ -/

theorem exec_statusRead (s : State) :
    exec .statusRead s = .next (s.carryOut 0x01 fun _ s => s.answer .done s.statusRecord) := rfl

/-- The record of R165 byte by byte; the budget in use is R95's sum. -/
theorem State.statusRecord_eq (s : State) :
    s.statusRecord =
      [0x04, 0x40, 0x01, s.ownAddress.extractLsb' 8 8, s.ownAddress.extractLsb' 0 8,
       (s.branch 0).state.code, (s.branch 1).state.code, (s.branch 2).state.code, (s.branch 3).state.code,
       BitVec.ofNat 8 s.liveCount, BitVec.ofNat 8 (s.liveCount + framesIn .reserved s.toq),
       if s.tx.isHeld then 1 else 0, BitVec.ofNat 8 s.notices.length, BitVec.ofNat 8 s.threshold.val,
       BitVec.ofNat 8 s.lease] := by
  have held : BitVec.ofNat 8 s.tx.isHeld.toNat = if s.tx.isHeld then 1 else 0 := by cases s.tx.isHeld <;> rfl
  rw [State.statusRecord, toBytes_two, toBytes_two, held]
  rfl

/-- Settles O11: the reply is the status record as it stands. -/
theorem statusReadReportsThePart : Obligations.StatusReadReportsThePart := by
  intro s run
  rw [exec_statusRead, State.carryOut_of_executes run rfl, State.statusRecord_eq]

end Sys2Proof.Machine
end

section
/-! The trunk and the Notice Queue kept sound (sections 8.1, 9.2, 9.3, 10.2): what each operation on the Trunk Output
Queue, the transmitter, the Agent and the notices leaves of the invariants that speak of them. -/

namespace Sys2Proof.Machine

/-! ### The trunk's invariants -/

/-- The two invariants of the trunk's queues, transmitter and Agent. -/
abbrev State.TrunkFit (s : State) : Prop := s.TrunkSound ∧ s.FramesBuilt

theorem buildTrunk_built {kind : BitVec 4} (sent : kind = kindResponse ∨ kind = kindManageReply ∨ kind = kindAttention)
    (address : Address) (tag code : Byte) (payload : List Byte) : (buildTrunk kind address tag code payload).Built :=
  ⟨sent, rfl, rfl⟩

theorem framesIn_concat_pool (place : Place) (toq : List OutFrame) (f : TrunkFrame) :
    framesIn .pool (toq ++ [⟨f, place⟩]) = framesIn .pool toq + if place = .pool then 1 else 0 :=
  framesIn_append .pool toq ⟨f, place⟩

theorem State.FramesBuilt.concat {s : State} (built : s.FramesBuilt) {place : Place} {f : TrunkFrame} (fit : f.Built)
    (response : place = .reserved → f.kind = kindResponse) :
    ∀ g ∈ s.toq ++ [⟨f, place⟩], g.frame.Built ∧ (g.place = .reserved → g.frame.kind = kindResponse) := by
  intro g mem
  rcases List.mem_append.1 mem with old | new
  · exact built g old
  · obtain rfl := List.mem_singleton.1 new
    exact ⟨fit, response⟩

theorem State.TrunkFit.join {s : State} (fit : s.TrunkFit) {place : Place} {f : TrunkFrame} (built : f.Built)
    (space : place = .pool → s.poolTaken < 8) (response : place = .reserved → f.kind = kindResponse) :
    (s.join place f).TrunkFit := by
  obtain ⟨⟨pool, inq, -, -, idle, waiting⟩, frames⟩ := fit
  refine ⟨⟨?pool, inq, ?begun, by simp, idle, waiting⟩, State.FramesBuilt.concat frames built response⟩
  case pool =>
    cases place with
    | pool =>
      have := space rfl
      simp only [State.poolTaken, State.join_toq, State.join_agent, framesIn_concat_pool] at this ⊢
      simp only [if_true]
      omega
    | reserved => simpa [State.poolTaken, framesIn_concat_pool] using pool
  case begun =>
    rw [State.join_tx]
    split <;> simp_all

/-- With no request in execution and a pool within its places, the Agent goes on soundly. -/
theorem State.agentNext_trunkFit {s : State} (pool : framesIn .pool s.toq ≤ 8) (inq : s.inq.length ≤ 4)
    (idle : s.tx = .idle → s.toq = []) (flight : s.tx.inFlight = true → s.toq ≠ []) (frames : s.FramesBuilt) :
    s.agentNext.TrunkFit := by
  rcases s.agentNext_cases with ⟨empty, next⟩ | ⟨q, rest, head, space, next⟩ | ⟨q, rest, head, full, next⟩
  · rw [next]
    exact ⟨⟨pool, inq, idle, flight, fun _ => empty, nofun⟩, frames⟩
  · rw [next]
    rw [head, List.length_cons] at inq
    exact ⟨⟨Nat.succ_le_of_lt space, Nat.le_of_succ_le inq, idle, flight, nofun, nofun⟩, frames⟩
  · rw [next]
    exact ⟨⟨pool, inq, idle, flight, nofun, fun _ empty => nomatch head.symm.trans empty⟩, frames⟩

theorem State.TrunkFit.agentNext {s : State} (fit : s.TrunkFit) : s.agentNext.TrunkFit := by
  obtain ⟨⟨pool, inq, idle, flight, -, -⟩, frames⟩ := fit
  exact State.agentNext_trunkFit ((Nat.le_add_right _ _).trans pool) inq idle flight frames

theorem State.TrunkFit.answer {s : State} (fit : s.TrunkFit) (result : Result) (payload : List Byte) :
    (s.answer result payload).TrunkFit := by
  cases run : s.agent with
  | idle => simpa [State.answer, run] using fit
  | waiting => simpa [State.answer, run] using fit
  | executing q =>
    obtain ⟨⟨pool, inq, -, -, -, -⟩, frames⟩ := fit
    have taken : framesIn .pool s.toq + 1 ≤ 8 := by simpa [State.poolTaken, run, Agent.reservation] using pool
    rw [State.answer_of_executing run]
    refine State.agentNext_trunkFit ?_ inq ?_ (by simp) ?_
    · simpa [framesIn_concat_pool] using taken
    · rw [State.join_tx]
      split <;> simp_all
    · exact State.FramesBuilt.concat frames (buildTrunk_built (.inr (.inl rfl)) _ _ _ _) (by simp)

/-- No reserved place is taken by what the Agent sends. -/
theorem State.framesIn_reserved_answer (s : State) (result : Result) (payload : List Byte) :
    framesIn .reserved (s.answer result payload).toq = framesIn .reserved s.toq := by
  unfold State.answer
  split <;> simp [framesIn_append]

theorem State.TrunkFit.enterManage {s : State} (fit : s.TrunkFit) (q : ManageRequest) : (s.enterManage q).TrunkFit := by
  unfold State.enterManage
  split
  next space =>
    obtain ⟨⟨pool, inq, idle, flight, empty, waiting⟩, frames⟩ := fit
    have more : (s.inq ++ [q]).length ≤ 4 := by simpa [Config.inputPlaces] using space
    dsimp only
    split
    next => exact State.agentNext_trunkFit ((Nat.le_add_right _ _).trans pool) more idle flight frames
    next run => exact ⟨⟨pool, more, idle, flight, by simp [run], by simp⟩, frames⟩
    next run => exact ⟨⟨pool, more, idle, flight, by simp [run], by simp⟩, frames⟩
  next =>
    rcases s.joinOrDrop_cases (buildTrunk kindManageReply s.ownAddress q.tag Result.busy.code [])
      with ⟨space, joined⟩ | ⟨-, dropped⟩
    · rw [joined]
      exact fit.join (buildTrunk_built (.inr (.inl rfl)) _ _ _ _) (fun _ => space) (by simp)
    · rw [dropped]
      exact fit

theorem State.TrunkFit.endTransmission {s : State} (fit : s.TrunkFit) : s.endTransmission.TrunkFit := by
  unfold State.endTransmission
  split
  next sending =>
    obtain ⟨⟨pool, inq, -, -, idle, waiting⟩, frames⟩ := fit
    have fewer : framesIn .pool s.toq.tail ≤ framesIn .pool s.toq := (List.tail_sublist s.toq).countP_le
    refine ⟨⟨?_, inq, ?_, ?_, idle, waiting⟩, fun f mem => frames f (List.mem_of_mem_tail mem)⟩
    · unfold State.poolTaken at pool ⊢
      simp only
      omega
    · cases tail : s.toq.tail <;> cases tx : s.tx <;> simp_all [TrunkTx.next, TrunkTx.inFlight]
    · cases tail : s.toq.tail <;> cases tx : s.tx <;> simp_all [TrunkTx.next, TrunkTx.inFlight]
  next => exact fit

/-- HOLD keeps the frame in transmission what it was. -/
theorem State.TrunkFit.hold {s : State} (fit : s.TrunkFit) : ({ s with tx := s.tx.hold } : State).TrunkFit := by
  obtain ⟨⟨pool, inq, idle, flight, empty, waiting⟩, frames⟩ := fit
  refine ⟨⟨pool, inq, ?_, ?_, empty, waiting⟩, frames⟩ <;> cases tx : s.tx <;>
    simp_all [TrunkTx.hold, TrunkTx.inFlight]

theorem State.TrunkFit.release {s : State} (fit : s.TrunkFit) :
    ({ s with tx := s.tx.release (!s.toq.isEmpty) } : State).TrunkFit := by
  obtain ⟨⟨pool, inq, idle, flight, empty, waiting⟩, frames⟩ := fit
  refine ⟨⟨pool, inq, ?_, ?_, empty, waiting⟩, frames⟩ <;> rcases tx : s.tx with _ | _ | _ | _ <;>
    rcases toq : s.toq <;> simp_all [TrunkTx.release, TrunkTx.inFlight]

/-- A soft reset keeps of the queue at most the frame in transmission (R157). -/
theorem State.inTransmission_sublist (s : State) : s.inTransmission.Sublist s.toq := by
  unfold State.inTransmission
  split
  · exact List.take_sublist 1 s.toq
  · exact List.nil_sublist _

/-- The trunk after the discarding of a soft reset, carried out by an Agent that keeps its reservation. -/
theorem State.TrunkFit.discard {s u : State} (fit : s.TrunkFit) {q : ManageRequest} (run : s.agent = .executing q)
    (tx : u.tx = s.tx) (toq : u.toq = s.inTransmission) (inq : u.inq = []) (agent : u.agent = s.agent) : u.TrunkFit := by
  obtain ⟨⟨pool, -, idle, flight, -, -⟩, frames⟩ := fit
  have fewer : framesIn .pool s.inTransmission ≤ framesIn .pool s.toq := s.inTransmission_sublist.countP_le
  refine ⟨⟨?_, by simp [inq], ?_, ?_, fun _ => inq, by simp [agent, run]⟩, fun f mem => ?_⟩
  · unfold State.poolTaken at pool ⊢
    rw [toq, agent]
    omega
  · intro at_rest
    rw [toq, State.inTransmission, ← tx, at_rest]
    rfl
  · intro sending
    rw [tx] at sending
    rw [toq, State.inTransmission, if_pos sending]
    simpa using flight sending
  · exact frames f (s.inTransmission_sublist.subset (toq ▸ mem))

/-! ### The Notice Queue's invariants -/

/-- A list of notices as R130 asks for it. -/
def NoticesFit (ns : List Notice) : Prop :=
  ns.length ≤ 16 ∧ (∀ n ∈ ns, n.Sound) ∧
    ns.Pairwise fun m n => m.claim = none → n.claim = none → m.source ≠ n.source

theorem State.noticesSound_iff {s : State} : s.NoticesSound ↔ NoticesFit s.notices := by
  unfold State.NoticesSound NoticesFit
  rw [List.Nodup, List.pairwise_map, List.pairwise_filter]
  simp only [Notice.unclaimed_iff]

namespace NoticesFit

variable {ns ms : List Notice} {i j : Nat} {m n : Notice}

theorem sublist (fit : NoticesFit ns) (sub : ms.Sublist ns) : NoticesFit ms :=
  ⟨sub.length_le.trans fit.1, fun n held => fit.2.1 n (sub.subset held), fit.2.2.sublist sub⟩

/-- A notice may be replaced by one that shares its source with no UNCLAIMED notice at another place. -/
theorem set (fit : NoticesFit ns) (sound : n.Sound)
    (apart : ∀ j k, ns[j]? = some k → j ≠ i → k.claim = none → n.claim = none → k.source ≠ n.source) :
    NoticesFit (ns.set i n) := by
  obtain ⟨size, each, pairs⟩ := fit
  refine ⟨by simpa using size, fun k held => ?_, ?_⟩
  · rcases List.mem_or_eq_of_mem_set held with old | rfl
    · exact each k old
    · exact sound
  · rw [List.pairwise_iff_getElem] at pairs ⊢
    intro a b a_lt b_lt before
    rw [List.length_set] at a_lt b_lt
    rw [List.getElem_set, List.getElem_set]
    have old := pairs a b a_lt b_lt before
    split
    next at_a =>
      rw [if_neg (by omega)]
      exact fun free other => (apart b _ (List.getElem?_eq_getElem b_lt) (by omega) other free).symm
    next =>
      split
      next => exact fun other free => apart a _ (List.getElem?_eq_getElem a_lt) (by omega) other free
      next => exact old

theorem concat (fit : NoticesFit ns) (sound : n.Sound) (space : ns.length < 16)
    (apart : ∀ k ∈ ns, k.claim = none → n.claim = none → k.source ≠ n.source) : NoticesFit (ns ++ [n]) := by
  obtain ⟨-, each, pairs⟩ := fit
  refine ⟨by simpa using space, fun k held => ?_, ?_⟩
  · rcases List.mem_append.1 held with old | new
    · exact each k old
    · exact List.mem_singleton.1 new ▸ sound
  · rw [List.pairwise_append]
    refine ⟨pairs, List.pairwise_singleton _ _, fun k held l new => ?_⟩
    exact List.mem_singleton.1 new ▸ apart k held

/-- Two UNCLAIMED notices of one source stand at one place. -/
theorem place_eq (fit : NoticesFit ns) (at_i : ns[i]? = some m) (at_j : ns[j]? = some n) (first : m.claim = none)
    (second : n.claim = none) (same : m.source = n.source) : i = j := by
  obtain ⟨i_lt, rfl⟩ := List.getElem?_eq_some_iff.1 at_i
  obtain ⟨j_lt, rfl⟩ := List.getElem?_eq_some_iff.1 at_j
  have pairs := List.pairwise_iff_getElem.1 fit.2.2
  rcases Nat.lt_trichotomy i j with before | equal | after
  · exact absurd same (pairs i j i_lt j_lt before first second)
  · exact equal
  · exact absurd same.symm (pairs j i j_lt i_lt after second first)

/-- Of two places the later is given up, and the earlier gets a notice with the source of the one of them that was
UNCLAIMED. -/
theorem set_eraseIdx (fit : NoticesFit ns) {early late : Nat} (before : early < late) (at_j : ns[j]? = some m)
    (free : m.claim = none) (sound : n.Sound) (same : n.source = m.source) (place : j = early ∨ j = late) :
    NoticesFit ((ns.set early n).eraseIdx late) := by
  rw [List.eraseIdx_set_gt before]
  refine (fit.sublist (List.eraseIdx_sublist ns late)).set sound fun a k at_a apart other _ equal => ?_
  rw [List.getElem?_eraseIdx] at at_a
  split at at_a
  next => have := fit.place_eq at_a at_j other free (equal.trans same); omega
  next => have := fit.place_eq at_a at_j other free (equal.trans same); omega

end NoticesFit

theorem Notice.max_severity_ne_zero {x y : Fin 8} (h : x ≠ 0) : max x y ≠ 0 := by
  revert x y; decide

theorem satInc_ne_zero (x : BitVec 8) : satInc x ≠ 0 := by
  rw [satInc_eq]
  split
  · decide
  next below =>
    have : x ≠ 255 := below
    bv_omega

theorem satAdd_ne_zero {x y : BitVec 8} (h : x ≠ 0) : satAdd x y ≠ 0 := by
  rw [satAdd_byte_eq]
  split
  · decide
  · bv_omega

/-- What R130 lets a notice hold depends on its source alone, so two notices of one source may share their fields. -/
theorem Notice.fieldsFit_of_same_source {m n k : Notice} (m_fit : m.fieldsFit = true) (n_fit : n.fieldsFit = true)
    (m_source : k.source = m.source) (n_source : k.source = n.source) (data : k.data = n.data)
    (forced : k.forced = (m.forced || n.forced)) : k.fieldsFit = true := by
  simp only [Notice.fieldsFit, ← m_source] at m_fit
  simp only [Notice.fieldsFit, ← n_source] at n_fit
  unfold Notice.fieldsFit
  clear m_source n_source
  cases source : k.source <;> simp_all

theorem Notice.Sound.coalesce {arrival held : Notice} (new : arrival.Sound) (old : held.Sound)
    (same : held.source = arrival.source) : (arrival.coalesce held).Sound := by
  obtain ⟨-, -, short, new_fit⟩ := new
  obtain ⟨severe, -, -, old_fit⟩ := old
  exact ⟨Notice.max_severity_ne_zero severe, satInc_ne_zero _, short,
    Notice.fieldsFit_of_same_source old_fit new_fit rfl same rfl rfl⟩

theorem Notice.Sound.merge {earlier later : Notice} (first : earlier.Sound) (second : later.Sound)
    (same : earlier.source = later.source) (lapsed : BitVec 8) : (earlier.merge later lapsed).Sound := by
  obtain ⟨severe, repeats, -, first_fit⟩ := first
  obtain ⟨-, -, short, second_fit⟩ := second
  exact ⟨Notice.max_severity_ne_zero severe, satAdd_ne_zero repeats, short,
    Notice.fieldsFit_of_same_source first_fit second_fit rfl same rfl rfl⟩

/-- A notice found UNCLAIMED with a source. -/
theorem findIdx?_source_some {ns : List Notice} {source : NoticeSource} {i : Nat}
    (found : (ns.findIdx? fun m => m.unclaimed && m.source == source) = some i) :
    ∃ m, ns[i]? = some m ∧ m.claim = none ∧ m.source = source := by
  obtain ⟨lt, accepts, -⟩ := List.findIdx?_eq_some_iff_getElem.1 found
  rw [Bool.and_eq_true, Notice.unclaimed_iff, beq_iff_eq] at accepts
  exact ⟨ns[i], List.getElem?_eq_getElem lt, accepts⟩

theorem findIdx?_source_none {ns : List Notice} {source : NoticeSource}
    (missing : (ns.findIdx? fun m => m.unclaimed && m.source == source) = none) :
    ∀ m ∈ ns, m.claim = none → m.source ≠ source := by
  simpa [List.findIdx?_eq_none_iff, Notice.unclaimed_iff] using missing

theorem replaceable_lt {ns : List Notice} {severity : Fin 8} {i : Nat} (found : replaceable ns severity = some i) :
    i < ns.length := by
  unfold replaceable at found
  split at found
  next =>
    split at found
    next => exact (List.findIdx?_eq_some_iff_getElem.1 found).1
    next => cases found
  next => cases found

/-- An arrival changes the notices and the lost count alone, and keeps the notices as R130 asks. -/
theorem State.arrive_fit (s : State) (n : Notice) :
    ∃ ns lost, s.arrive n = { s with notices := ns, lost := lost } ∧
      (n.Sound → n.claim = none → NoticesFit s.notices → NoticesFit ns) := by
  cases found : s.notices.findIdx? fun m => m.unclaimed && m.source == n.source with
  | some i =>
    obtain ⟨m, at_i, free, same⟩ := findIdx?_source_some found
    refine ⟨s.notices.set i (n.coalesce m), s.lost, ?_, fun sound _ fit => ?_⟩
    · simp [State.arrive, found, List.modify_eq_set_getElem?, at_i]
    · refine fit.set (sound.coalesce (fit.2.1 m (List.mem_of_getElem? at_i)) same) ?_
      intro j k at_j apart other _ equal
      exact apart (fit.place_eq at_j at_i other free equal)
  | none =>
    have new := findIdx?_source_none found
    rw [State.arrive_of_source_new new]
    split
    next space =>
      exact ⟨_, s.lost, rfl, fun sound _ fit => fit.concat sound space fun k held free _ => new k held free⟩
    next full =>
      split
      next i found =>
        refine ⟨_, _, rfl, fun sound _ fit => ?_⟩
        refine (fit.sublist (List.eraseIdx_sublist _ i)).concat sound ?_ fun k held free _ =>
          new k ((List.eraseIdx_sublist _ i).subset held) free
        have place := replaceable_lt found
        have most := fit.1
        rw [List.length_eraseIdx_of_lt place]
        omega
      next => exact ⟨s.notices, _, rfl, fun _ _ fit => fit⟩

/-- A lapsed lease keeps the notices as R130 asks (R138). -/
theorem NoticesFit.lapse {ns : List Notice} {i : Nat} {n : Notice} {c : Claim} (fit : NoticesFit ns)
    (at_i : ns[i]? = some n) (claimed : n.claim = some c) (lapsed : BitVec 8) : NoticesFit (lapse ns i n lapsed) := by
  have sound : n.Sound := fit.2.1 n (List.mem_of_getElem? at_i)
  unfold Machine.lapse
  split
  next missing =>
    have new := findIdx?_source_none missing
    exact fit.set sound fun j k at_j _ free _ => new k (List.mem_of_getElem? at_j) free
  next j found =>
    obtain ⟨m, at_j, free, same⟩ := findIdx?_source_some found
    have m_sound : m.Sound := fit.2.1 m (List.mem_of_getElem? at_j)
    have differ : i ≠ j := by
      rintro rfl
      cases at_i.symm.trans at_j
      simp [free] at claimed
    rw [at_j]
    dsimp only
    split
    next before => exact fit.set_eraseIdx before at_j free (sound.merge m_sound same.symm lapsed) same.symm (.inr rfl)
    next after =>
      exact fit.set_eraseIdx (Nat.lt_of_le_of_ne (Nat.le_of_not_lt after) differ.symm) at_j free
        (m_sound.merge sound same lapsed) rfl (.inl rfl)

end Sys2Proof.Machine
end

section
/-! What a command can do, said once: the moves that the meanings of the commands are made of, each with the facts that the
part's invariants need of it, and the shared operations of the part as such moves. -/

namespace Sys2Proof.Machine

/-! ### The moves -/

/-- A record carries on the request that another was admitted with (section 6.1). -/
structure Record.SameRequest (r q : Record) : Prop where
  trunkTag : q.trunkTag = r.trunkTag
  globalAddress : q.globalAddress = r.globalAddress
  urgent : q.urgent = r.urgent
  op : q.op = r.op
  snapshot : q.snapshot = r.snapshot
  payload : q.payload = r.payload

theorem Record.SameRequest.refl (r : Record) : r.SameRequest r := ⟨rfl, rfl, rfl, rfl, rfl, rfl⟩

theorem Record.SameRequest.trans {r q p : Record} (h : r.SameRequest q) (k : q.SameRequest p) : r.SameRequest p :=
  ⟨k.trunkTag.trans h.trunkTag, k.globalAddress.trans h.globalAddress, k.urgent.trans h.urgent, k.op.trans h.op,
    k.snapshot.trans h.snapshot, k.payload.trans h.payload⟩

/-- The branches whose port or records a command may change: one for the commands of a branch (sections 6.4, 7.4), any for
those that look for their branch themselves, none for the rest. -/
def State.Reaches (s : State) (c : Instr) (b : Fin 4) : Prop :=
  match c with
  | .branchFrame d _ | .branchResponse d _ _ _ _ | .alert d _ _ | .branchTransmissionEnd d | .exchangeTimerExpiry d _
  | .coolDeadlineExpiry d _ | .drainDeadlineExpiry d => b = d
  | .schedulerIssue d => s.IssueQueuesSound → b = d
  | .trunkFrame _ | .request _ _ _ _ _ | .counterRead | .branchConfig | .branchEnable | .branchDrain | .branchDisable
  | .transactionAbort | .spacingExpiry _ | .pauseExpiry _ => True
  | _ => False

/-- The states that the command `c` can come to from `s` by the moves of the part. The resets of whole tables are no moves:
they stand in `State.Begins`. -/
inductive State.Moves (c : Instr) (s : State) : State → Prop
  | start : State.Moves c s s
  | aside {t : State} (now : Time) (counters : Table (BitVec 32) 16) (request : Bool) (m : State.Moves c s t) :
    State.Moves c s { t with now := now, trunkCounters := counters, attentionPending := request }
  | trunk {t : State} (tx : TrunkTx) (toq : List OutFrame) (inq : List ManageRequest) (agent : Agent)
    (m : State.Moves c s t)
    (fit : t.TrunkFit → ({ t with tx := tx, toq := toq, inq := inq, agent := agent } : State).TrunkFit)
    (places : framesIn .reserved toq ≤ framesIn .reserved t.toq) :
    State.Moves c s { t with tx := tx, toq := toq, inq := inq, agent := agent }
  | notices {t : State} (ns : List Notice) (threshold : Fin 8) (lease : Nat) (nextClaim : BitVec 8) (lost : BitVec 16)
    (attn : Bool) (m : State.Moves c s t) (high : s.resetLow = false)
    (fit : NoticesFit t.notices → NoticesFit ns)
    (follows : t.attn = t.attentionCondition → attn = ns.any (Notice.calls threshold))
    (range : 1 ≤ t.lease ∧ t.lease ≤ 60 → 1 ≤ lease ∧ lease ≤ 60) :
    State.Moves c s
      { t with notices := ns, threshold := threshold, lease := lease, nextClaim := nextClaim, lost := lost, attn := attn }
  | routes {t : State} (routes : Table RouteEntry 128) (ownAddress : Address) (m : State.Moves c s t)
    (sound : t.RoutesSound → ({ t with routes := routes, ownAddress := ownAddress } : State).RoutesSound)
    (generations : c ≠ .routeWrite → c ≠ .routeDelete → ∀ i, (look routes i).generation = (t.route i).generation) :
    State.Moves c s { t with routes := routes, ownAddress := ownAddress }
  | profile {t : State} (p : Fin 4) (v : CheckProfile) (m : State.Moves c s t) (request : c = .profileWrite)
    (unused : s.profileInUse p = false) (sound : v.Sound) : State.Moves c s (t.setProfile p v)
  | recipe {t : State} (k : Fin 32) (v : Option Recipe) (m : State.Moves c s t)
    (request : c = .recipeWrite ∨ c = .recipeClear) (unused : s.recipeInUse k = false) (records : t.records = s.records)
    (sound : ∀ r ∈ v, r.Sound) : State.Moves c s (t.setRecipe k v)
  | block {t : State} (k : Fin 32) (bytes : List Byte) (m : State.Moves c s t) (short : bytes.length ≤ 16) :
    State.Moves c s (t.setBlock k bytes)
  | port {t : State} (b : Fin 4) (p : BranchPort) (m : State.Moves c s t) (reach : s.Reaches c b)
    (range : (t.branch b).SettingsSound → p.SettingsSound) : State.Moves c s (t.setBranch b p)
  | update {t : State} {slot : Fin 32} {r : Record} (q : Record) (m : State.Moves c s t)
    (live : t.record slot = some r) (reach : s.Reaches c r.snapshot.branch) (same : r.SameRequest q)
    (sound : t.RecordsSound → t.RecordSound q) : State.Moves c s (t.setRecord slot (some q))
  | ending {t : State} {slot : Fin 32} {r : Record} (f : TrunkFrame) (m : State.Moves c s t)
    (live : t.record slot = some r) (reach : s.Reaches c r.snapshot.branch) (built : f.Built)
    (response : f.kind = kindResponse) : State.Moves c s ((t.join .reserved f).setRecord slot none)
  | create {t : State} {slot : Fin 32} (r : Record) (m : State.Moves c s t) (records : t.records = s.records)
    (free : t.record slot = none) (reach : s.Reaches c r.snapshot.branch)
    (new : ∀ i q, t.record i = some q → q.trunkTag ≠ r.trunkTag) (budget : t.budgetInUse < 32)
    (sound : t.RecordsSound → t.RecordSound r) : State.Moves c s (t.setRecord slot (some r))

namespace State.Moves

variable {c : Instr} {s t : State}

theorem resetLow_eq (m : s.Moves c t) : t.resetLow = s.resetLow := by
  induction m with
  | start => rfl
  | _ => assumption

theorem pending_eq (m : s.Moves c t) : t.pending = s.pending := by
  induction m with
  | start => rfl
  | _ => assumption

/-! ### The trunk and the Notice Queue -/

theorem reach (m : s.Moves c t) (d : Time) : s.Moves c (t.reach d) :=
  m.aside (max t.now d) t.trunkCounters t.attentionPending

theorem bumpTrunk (m : s.Moves c t) (k : TrunkCounter) : s.Moves c (t.bumpTrunk k) :=
  m.aside t.now (put t.trunkCounters k.index (satInc (look t.trunkCounters k.index))) t.attentionPending

theorem pooled (m : s.Moves c t) {f : TrunkFrame} (space : t.poolTaken < 8) (built : f.Built) :
    s.Moves c (t.join .pool f) := by
  rw [State.join_eq]
  refine m.trunk _ _ t.inq t.agent (fun fit => ?_) (by simp [framesIn_append])
  have joined := fit.join built (place := .pool) (fun _ => space) nofun
  rwa [State.join_eq] at joined

theorem joinOrDrop (m : s.Moves c t) {f : TrunkFrame} (built : f.Built) : s.Moves c (t.joinOrDrop f) := by
  rcases t.joinOrDrop_cases f with ⟨space, joined⟩ | ⟨-, dropped⟩
  · exact joined ▸ m.pooled space built
  · exact dropped ▸ m.bumpTrunk .unsent

/-- A move of the trunk alone. -/
theorem ofTrunk {u : State} (m : s.Moves c t)
    (only : u = { t with tx := u.tx, toq := u.toq, inq := u.inq, agent := u.agent }) (fit : t.TrunkFit → u.TrunkFit)
    (places : framesIn .reserved u.toq ≤ framesIn .reserved t.toq) : s.Moves c u := by
  rw [only] at fit ⊢
  exact m.trunk u.tx u.toq u.inq u.agent fit places

theorem agentNext (m : s.Moves c t) : s.Moves c t.agentNext := by
  refine m.ofTrunk ?_ (fun fit => fit.agentNext) (by simp)
  rcases t.agentNext_cases with ⟨-, next⟩ | ⟨q, rest, -, -, next⟩ | ⟨q, rest, -, -, next⟩ <;> rw [next]

theorem answer (m : s.Moves c t) (result : Result) (payload : List Byte) : s.Moves c (t.answer result payload) := by
  refine m.ofTrunk ?_ (fun fit => fit.answer result payload) (t.framesIn_reserved_answer result payload).le
  unfold State.answer
  split
  next q run =>
    rcases State.agentNext_cases ({ t with agent := .idle }.join .pool
      (buildTrunk kindManageReply t.ownAddress q.tag result.code payload))
      with ⟨-, next⟩ | ⟨q, rest, -, -, next⟩ | ⟨q, rest, -, -, next⟩ <;> rw [next] <;> rfl
  all_goals rfl

theorem requestAttention (m : s.Moves c t) : s.Moves c t.requestAttention := by
  rcases t.requestAttention_cases with ⟨-, same⟩ | ⟨-, space, joined⟩ | ⟨-, -, waits⟩
  · rwa [same]
  · exact joined ▸ m.pooled space (buildTrunk_built (.inr (.inr rfl)) _ _ _ _)
  · exact waits ▸ m.aside t.now t.trunkCounters true

/-- The notices and their settings change, and the condition is judged after it. -/
theorem judged (m : s.Moves c t) (high : s.resetLow = false) (ns : List Notice) (threshold : Fin 8) (lease : Nat)
    (nextClaim : BitVec 8) (lost : BitVec 16) (fit : NoticesFit t.notices → NoticesFit ns)
    (range : 1 ≤ t.lease ∧ t.lease ≤ 60 → 1 ≤ lease ∧ lease ≤ 60) :
    s.Moves c ({ t with notices := ns, threshold := threshold, lease := lease, nextClaim := nextClaim, lost := lost }
      : State).judgeAttention := by
  have moved (attn : Bool) (follows : attn = ns.any (Notice.calls threshold)) :=
    m.notices ns threshold lease nextClaim lost attn high fit (fun _ => follows) range
  unfold State.judgeAttention
  split
  next holds =>
    split
    next up => exact moved t.attn (up.trans holds.symm)
    next => exact (moved true holds.symm).requestAttention
  next fails => exact moved false (Bool.eq_false_of_not_eq_true fails).symm

theorem post (m : s.Moves c t) (high : s.resetLow = false) {n : Notice} (sound : n.Sound) (free : n.claim = none) :
    s.Moves c (t.post n) := by
  obtain ⟨ns, lost, arrived, fit⟩ := t.arrive_fit n
  rw [State.post, arrived]
  exact m.judged high ns t.threshold t.lease t.nextClaim lost (fit sound free) id

theorem postNew (m : s.Moves c t) (high : s.resetLow = false) {source : NoticeSource} {severity : Fin 8}
    {address : Option Address} {data : List Byte} {forced : Bool} (severe : severity ≠ 0) (short : data.length ≤ 8)
    (fits : (newNotice source severity address data forced).fieldsFit = true) :
    s.Moves c (t.post (newNotice source severity address data forced)) :=
  m.post high ⟨severe, by simp [newNotice], short, fits⟩ rfl

end State.Moves

/-! ### The Route Table -/

/-- A table stays sound where each of its entries keeps a configuration that stood there before. -/
theorem State.RoutesSound.of_configs {s t : State} (sound : s.RoutesSound) (low : t.resetLow = s.resetLow)
    (own : t.ownAddress = s.ownAddress)
    (each : ∀ i q, (t.route i).live = some q →
      ∃ r, (s.route i).live = some r ∧ q.config = r.config ∧ (r.Sound → q.Sound)) : t.RoutesSound := by
  obtain ⟨⟨addresses, places, apart⟩, ranges, empty⟩ := sound
  refine ⟨⟨fun i j q at_i p at_j => ?_, fun i j q at_i p at_j => ?_, fun i q at_i => ?_⟩, fun i q at_i => ?_,
    fun is_low i => ?_⟩
  · obtain ⟨r, at_i, q_eq, -⟩ := each i q at_i
    obtain ⟨l, at_j, p_eq, -⟩ := each j p at_j
    rw [q_eq, p_eq]
    exact addresses i j r at_i l at_j
  · obtain ⟨r, at_i, q_eq, -⟩ := each i q at_i
    obtain ⟨l, at_j, p_eq, -⟩ := each j p at_j
    rw [q_eq, p_eq]
    exact places i j r at_i l at_j
  · obtain ⟨r, at_i, q_eq, -⟩ := each i q at_i
    rw [q_eq, own]
    exact apart i r at_i
  · obtain ⟨r, at_i, -, keeps⟩ := each i q at_i
    exact keeps (ranges i r at_i)
  · refine Option.eq_none_iff_forall_ne_some.2 fun q at_i => ?_
    obtain ⟨r, at_i, -⟩ := each i q at_i
    cases at_i.symm.trans (empty (low ▸ is_low) i)

theorem State.RoutesSound.setRoute {s : State} (sound : s.RoutesSound) {i : Fin 128} {e : RouteEntry}
    (each : ∀ q ∈ e.live, ∃ r ∈ (s.route i).live, q.config = r.config ∧ (r.Sound → q.Sound)) :
    (s.setRoute i e).RoutesSound := by
  refine sound.of_configs rfl rfl fun j q at_j => ?_
  rw [State.route_setRoute] at at_j
  split at at_j
  next same => exact same ▸ each q at_j
  next => exact ⟨q, at_j, rfl, id⟩

namespace State.Moves

variable {c : Instr} {s t : State}

/-- An entry changes under a configuration that stays, or is given up, and keeps its generation where no request on the
table is carried out. -/
theorem setRoute (m : s.Moves c t) {i : Fin 128} {e : RouteEntry}
    (each : ∀ q ∈ e.live, ∃ r ∈ (t.route i).live, q.config = r.config ∧ (r.Sound → q.Sound))
    (generation : c ≠ .routeWrite → c ≠ .routeDelete → e.generation = (t.route i).generation) :
    s.Moves c (t.setRoute i e) := by
  refine m.routes (put t.routes i e) t.ownAddress (fun sound => sound.setRoute each) fun write delete j => ?_
  rw [look_put]
  split
  next same => exact same ▸ generation write delete
  next => rfl

/-- An entry's state and count change under a configuration that stays. -/
theorem setLive (m : s.Moves c t) {i : Fin 128} {r q : LiveRoute} (live : (t.route i).live = some r)
    (config : q.config = r.config) (sound : r.Sound → q.Sound) : s.Moves c (t.setLive i q) := by
  refine m.setRoute (fun p held => ?_) fun _ _ => rfl
  obtain rfl := Option.some.inj held
  exact ⟨r, live, config, sound⟩

theorem accepting_eq_some {snap : Snapshot} {r : LiveRoute} (accepts : t.accepting snap = some r) :
    (t.route snap.routeIndex).live = some r := by
  unfold State.accepting at accepts
  split at accepts
  next => exact accepts
  next => cases accepts

theorem reportMatched (m : s.Moves c t) (snap : Snapshot) : s.Moves c (t.reportMatched snap) := by
  unfold State.reportMatched
  split
  next r accepts =>
    refine m.setLive (accepting_eq_some accepts) rfl fun sound => ?_
    obtain ⟨low, high, timeout, -⟩ := sound
    exact ⟨low, high, timeout, fun _ limit => by bv_omega⟩
  next => exact m

theorem reportTimeout (m : s.Moves c t) (high : s.resetLow = false) (snap : Snapshot) :
    s.Moves c (t.reportTimeout snap) := by
  unfold State.reportTimeout
  split
  next r accepts =>
    have live := accepting_eq_some accepts
    dsimp only
    split
    next =>
      have quarantined := m.setLive (q := { r with failures := satInc r.failures, quarantined := true }) live rfl
        fun ⟨low, top, timeout, _⟩ => ⟨low, top, timeout, nofun⟩
      exact quarantined.postNew high (severity := 5) (data := []) (by decide) (by decide) rfl
    next below =>
      refine m.setLive live rfl fun sound => ?_
      obtain ⟨low, top, timeout, -⟩ := sound
      refine ⟨low, top, timeout, fun valid limit => ?_⟩
      replace valid : r.quarantined = false := valid
      replace limit : r.config.quarantineLimit ≠ 0 := limit
      simpa [valid, show ¬r.config.quarantineLimit = 0#8 from limit] using below
  next => exact m

/-! ### The Transaction Table -/

theorem bumpBranch (m : s.Moves c t) {b : Fin 4} (reach : s.Reaches c b) (k : BranchCounter) :
    s.Moves c (t.bumpBranch b k) :=
  m.port b _ reach id

theorem setTag (m : s.Moves c t) {b : Fin 4} (reach : s.Reaches c b) (n : Fin 16) (r : TagRecord) :
    s.Moves c (t.setTag b n r) :=
  m.port b _ reach id

theorem coolTag (m : s.Moves c t) {b : Fin 4} (reach : s.Reaches c b) (n : Fin 16) : s.Moves c (t.coolTag b n) :=
  m.port b _ reach (by simp [BranchPort.SettingsSound])

theorem undo (m : s.Moves c t) {r : Record} (reach : s.Reaches c r.snapshot.branch) (slot : Fin 32) :
    s.Moves c (t.undo slot r) := by
  unfold State.undo
  split
  · exact m.port _ _ reach id
  · exact m.coolTag reach _
  · exact m
  · exact m

/-- A branch that stops working needs no count below its limit. -/
theorem close (m : s.Moves c t) {b : Fin 4} (reach : s.Reaches c b) {state : BranchState}
    (closed : state.working = false) : s.Moves c (t.setBranchState b state) := by
  refine m.port b _ reach fun range => ?_
  obtain ⟨w1, w4, c1, c255, f1, f15, count, -⟩ := range
  exact ⟨w1, w4, c1, c255, f1, f15, count, fun works => nomatch closed.symm.trans works⟩

theorem endRecord (m : s.Moves c t) (high : s.resetLow = false) {slot : Fin 32} {r : Record} (q : Record)
    (live : t.record slot = some r) (reach : s.Reaches c r.snapshot.branch) (e : Ending) :
    s.Moves c (t.endRecord slot q e) := by
  have ended := (m.ending (responseFrame q e) live reach (buildTrunk_built (.inl rfl) _ _ _ _) rfl).bumpTrunk e.counter
  unfold State.endRecord
  rw [State.reportEnding_eq]
  split
  · exact ended.reportTimeout high q.snapshot
  · exact ended

theorem checkDrained (m : s.Moves c t) (high : s.resetLow = false) {b : Fin 4} (reach : s.Reaches c b) :
    s.Moves c (t.checkDrained b) := by
  unfold State.checkDrained
  split
  · exact (m.close reach rfl).postNew high (severity := 2) (data := []) (by decide) (by decide) rfl
  · exact m

theorem endTransaction (m : s.Moves c t) (high : s.resetLow = false) {slot : Fin 32} {r q : Record}
    (live : t.record slot = some r) (same : r.SameRequest q) (reach : s.Reaches c r.snapshot.branch) (e : Ending) :
    s.Moves c (t.endTransaction slot q e) :=
  (m.endRecord high q live reach e).checkDrained high (by rwa [same.snapshot])

theorem endSlotOf (m : s.Moves c t) (high : s.resetLow = false) {b : Fin 4} (reach : s.Reaches c b) (e : Ending)
    (slot : Fin 32) : s.Moves c (State.endSlotOf b e t slot) := by
  cases on : t.recordOn b slot with
  | none => rwa [State.endSlotOf_of_none on]
  | some r =>
    obtain ⟨live, at_b⟩ := State.recordOn_eq_some.1 on
    subst at_b
    rw [State.endSlotOf_of_some on]
    exact (m.undo reach slot).endRecord high r (by simpa [State.record] using live) reach e

theorem endBranchRecords (m : s.Moves c t) (high : s.resetLow = false) {b : Fin 4} (reach : s.Reaches c b)
    (e : Ending) : s.Moves c (t.endBranchRecords b e) := by
  unfold State.endBranchRecords
  generalize List.finRange 32 = slots
  induction slots generalizing t with
  | nil => exact m
  | cons slot slots ih => exact ih (m.endSlotOf high reach e slot)

end State.Moves

/-! ### Moving through the recipe -/

/-- What a record may hold whatever step it stands at (R83). -/
def Record.Bounded (r : Record) : Prop :=
  r.payload.length ≤ 64 ∧ r.accumulator.length ≤ 64 ∧ r.retries ≤ r.snapshot.retryLimit.val

/-- A record stands soundly where its state fits the step of its recipe at its index. -/
theorem State.recordSound_iff {s : State} {r : Record} :
    s.RecordSound r ↔ r.Bounded ∧ ∃ step, (s.stepsOf r)[r.step]? = some step ∧ r.state.fits r.attempts step = true := by
  constructor
  · rintro ⟨payload, accumulator, retries, inside, fits⟩
    have at_step : (s.stepsOf r)[r.step]? = some (s.stepsOf r)[r.step] := List.getElem?_eq_getElem inside
    exact ⟨⟨payload, accumulator, retries⟩, _, at_step, fits _ at_step⟩
  · rintro ⟨⟨payload, accumulator, retries⟩, step, at_step, fits⟩
    refine ⟨payload, accumulator, retries, (List.getElem?_eq_some_iff.1 at_step).1, fun other at_other => ?_⟩
    obtain rfl := Option.some.inj (at_step.symm.trans at_other)
    exact fits

theorem BranchPort.SettingsSound.enqueue {p : BranchPort} (range : p.SettingsSound) (urgent : Bool) (slot : Fin 32) :
    (p.enqueue urgent slot).SettingsSound := by
  cases urgent <;> exact range

theorem State.stepsOf_congr {s t : State} (recipes : t.recipes = s.recipes) {r q : Record}
    (snapshot : q.snapshot = r.snapshot) (op : q.op = r.op) : t.stepsOf q = s.stepsOf r := by
  simp only [State.stepsOf, State.recipeOf, State.recipe, recipes, snapshot, op]

namespace State.Moves

variable {c : Instr} {s t : State} {slot : Fin 32} {r q : Record}

/-- A live record takes a new state at the step it stands at, or another one. -/
theorem restate (m : s.Moves c t) (live : t.record slot = some r) (reach : s.Reaches c r.snapshot.branch)
    (same : r.SameRequest q)
    (sound : t.RecordsSound → q.Bounded ∧
      ∃ step, (t.stepsOf r)[q.step]? = some step ∧ q.state.fits q.attempts step = true) :
    s.Moves c (t.setRecord slot (some q)) := by
  refine m.update q live reach same fun sounds => ?_
  rw [State.recordSound_iff, State.stepsOf_congr rfl same.snapshot same.op]
  exact sound sounds

theorem queueRecord (m : s.Moves c t) (live : t.record slot = some r) (reach : s.Reaches c r.snapshot.branch)
    (same : r.SameRequest q)
    (sound : t.RecordsSound → q.Bounded ∧
      ∃ step, (t.stepsOf r)[q.step]? = some step ∧ RecordState.queued.fits q.attempts step = true) :
    s.Moves c (t.queueRecord slot q) := by
  have queued := m.restate (q := { q with state := .queued }) live reach
    ⟨same.trunkTag, same.globalAddress, same.urgent, same.op, same.snapshot, same.payload⟩ sound
  exact queued.port _ _ (by rwa [same.snapshot]) fun range => range.enqueue q.urgent slot

/-- At an issue or an await whose attempts are below its limit a record may wait in the queue. -/
theorem fits_queued_of_fits {state : RecordState} {attempts : Nat} {step : Step}
    (fits : state.fits attempts step = true) (sends : ∀ d, state ≠ .paused d) :
    RecordState.queued.fits attempts step = true := by
  cases state <;> cases step <;> simp_all [RecordState.fits]

/-- A step in range that sends takes a record with no attempt made: its attempt limit is not 0 (R12). -/
theorem fits_queued_of_inRange {step : Step} (range : step.inRange = true) (sends : ∀ d, step ≠ .pause d) :
    RecordState.queued.fits 0 step = true := by
  cases step with
  | issue => rfl
  | await op block index mask expected limit spacing =>
    obtain ⟨limited, -⟩ : limit ≠ 0 ∧ durationOk spacing = true := by simpa [Step.inRange] using range
    have : 0 < limit.toNat := by bv_omega
    simpa [RecordState.fits] using this
  | pause d => exact absurd rfl (sends d)

theorem takeUp (m : s.Moves c t) (live : t.record slot = some r) (reach : s.Reaches c r.snapshot.branch)
    (same : r.SameRequest q) (step : Step)
    (sound : t.RecordsSound → q.Bounded ∧ (t.stepsOf r)[q.step]? = some step ∧ step.inRange = true) :
    s.Moves c (t.takeUp slot q step) := by
  cases step with
  | issue op block offset slice capture =>
    refine m.queueRecord live reach same fun sounds => ?_
    obtain ⟨bounded, at_step, -⟩ := sound sounds
    exact ⟨bounded, _, at_step, rfl⟩
  | await op block index mask expected limit spacing =>
    refine m.queueRecord (q := { q with attempts := 0 }) live reach
      ⟨same.trunkTag, same.globalAddress, same.urgent, same.op, same.snapshot, same.payload⟩ fun sounds => ?_
    obtain ⟨bounded, at_step, range⟩ := sound sounds
    refine ⟨bounded, _, at_step, ?_⟩
    exact fits_queued_of_inRange range nofun
  | pause duration =>
    refine m.restate (q := { q with state := .paused (t.now + duration.toNat) }) live reach
      ⟨same.trunkTag, same.globalAddress, same.urgent, same.op, same.snapshot, same.payload⟩ fun sounds => ?_
    obtain ⟨bounded, at_step, -⟩ := sound sounds
    exact ⟨bounded, _, at_step, rfl⟩

/-- Every step of a record's recipe is in range, DIRECT's one step as well (R12, R59). -/
theorem inRange_of_recordsSound (sounds : t.RecordsSound) {r : Record} {i : Nat} {step : Step}
    (at_step : (t.stepsOf r)[i]? = some step) : step.inRange = true := by
  have member := List.mem_of_getElem? at_step
  unfold State.stepsOf State.recipeOf at member
  cases choice : r.snapshot.recipe with
  | none =>
    rw [choice] at member
    obtain rfl := List.mem_singleton.1 member
    rfl
  | some k =>
    rw [choice] at member
    cases loaded : t.recipe k with
    | none => simp [loaded] at member
    | some recipe =>
      obtain ⟨-, -, ranges, -⟩ := sounds.1.1 k recipe loaded
      exact ranges step (by simpa [loaded] using member)

theorem advance (m : s.Moves c t) (high : s.resetLow = false) (live : t.record slot = some r)
    (reach : s.Reaches c r.snapshot.branch) (same : r.SameRequest q) (sound : t.RecordsSound → q.Bounded) :
    s.Moves c (t.advance slot q) := by
  cases upcoming : (t.stepsOf q)[q.step + 1]? with
  | none =>
    rw [State.advance_of_last (List.getElem?_eq_none_iff.1 upcoming)]
    exact m.endTransaction high live same reach .ok
  | some step =>
    rw [State.advance_of_upcoming upcoming]
    refine m.takeUp (q := { q with step := q.step + 1 }) live reach
      ⟨same.trunkTag, same.globalAddress, same.urgent, same.op, same.snapshot, same.payload⟩ step fun sounds => ?_
    refine ⟨sound sounds, ?_, inRange_of_recordsSound sounds upcoming⟩
    rwa [← State.stepsOf_congr rfl same.snapshot same.op]

theorem judgeAnswer_success {step : Option Step} {accumulated attempts : Nat} {status : Byte}
    {payload bytes : List Byte} (judged : judgeAnswer step accumulated attempts status payload = .success bytes)
    (room : accumulated ≤ 64) : accumulated + bytes.length ≤ 64 := by
  unfold judgeAnswer at judged
  repeat' split at judged
  all_goals cases judged
  next fits => exact Nat.le_of_not_lt fits
  all_goals exact room

theorem judgeAnswer_again {step : Option Step} {accumulated attempts : Nat} {status : Byte} {payload : List Byte}
    {gap : BitVec 16} (judged : judgeAnswer step accumulated attempts status payload = .again gap) :
    ∃ op block index mask expected limit spacing,
      step = some (.await op block index mask expected limit spacing) ∧ attempts + 1 < limit.toNat := by
  unfold judgeAnswer at judged
  repeat' split at judged
  all_goals cases judged
  next below => exact ⟨_, _, _, _, _, _, _, rfl, below⟩

theorem takeAnswer (m : s.Moves c t) (high : s.resetLow = false) (live : t.record slot = some r)
    (reach : s.Reaches c r.snapshot.branch) (status : Byte) (payload : List Byte) :
    s.Moves c (t.takeAnswer slot r status payload) := by
  have reported := m.reportMatched r.snapshot
  have still : (t.reportMatched r.snapshot).record slot = some r := by simpa [State.record] using live
  have bounded (sounds : (t.reportMatched r.snapshot).RecordsSound) : r.Bounded :=
    (State.recordSound_iff.1 (sounds.2 slot r still)).1
  unfold State.takeAnswer
  dsimp only
  split
  next bytes judged =>
    refine reported.advance high still reach ⟨rfl, rfl, rfl, rfl, rfl, rfl⟩ fun sounds => ?_
    obtain ⟨short, room, retries⟩ := bounded sounds
    exact ⟨short, by simpa using judgeAnswer_success judged room, retries⟩
  next gap judged =>
    refine reported.restate still reach ⟨rfl, rfl, rfl, rfl, rfl, rfl⟩ fun sounds => ⟨bounded sounds, ?_⟩
    obtain ⟨op, block, index, mask, expected, limit, spacing, at_step, below⟩ := judgeAnswer_again judged
    exact ⟨_, at_step, by simpa [RecordState.fits] using below⟩
  next e judged => exact reported.endTransaction high still (.refl r) reach e

/-! ### A branch's traffic -/

theorem setBranch_twice (u : State) (b : Fin 4) (p q : BranchPort) :
    (u.setBranch b p).setBranch b q = u.setBranch b q := by
  simp [State.setBranch]

/-- Undoing a record of a branch leaves the branch's state, and does not read it. -/
theorem undo_setBranchState (u : State) (slot : Fin 32) (r : Record) (state : BranchState) :
    (u.undo slot r).setBranchState r.snapshot.branch state =
      (u.setBranchState r.snapshot.branch state).undo slot r := by
  cases at_state : r.state with
  | queued =>
    simp only [State.undo_of_queued at_state, State.setBranchState, State.branch_setBranch_self, setBranch_twice]
    rfl
  | issued n d =>
    simp only [State.undo_of_issued at_state, State.setTag, State.setBranchState, State.branch_setBranch_self,
      setBranch_twice]
    rfl
  | spacing d => rw [State.undo_of_timed (.inl at_state), State.undo_of_timed (.inl at_state)]
  | paused d => rw [State.undo_of_timed (.inr at_state), State.undo_of_timed (.inr at_state)]

/-- An imposed ending leaves the state of the branch, and does not read it. -/
theorem endSlotOf_setBranchState {e : Ending} (imposed : e.Imposed) (u : State) (b : Fin 4) (slot : Fin 32)
    (state : BranchState) :
    (State.endSlotOf b e u slot).setBranchState b state = State.endSlotOf b e (u.setBranchState b state) slot := by
  have same : (u.setBranchState b state).recordOn b slot = u.recordOn b slot := rfl
  cases on : u.recordOn b slot with
  | none => rw [State.endSlotOf_of_none on, State.endSlotOf_of_none (same.trans on)]
  | some r =>
    obtain ⟨-, rfl⟩ := State.recordOn_eq_some.1 on
    rw [State.endSlotOf_of_some on, State.endSlotOf_of_some (same.trans on), State.endRecord, State.endRecord,
      imposed.reportEnding_eq, imposed.reportEnding_eq, ← undo_setBranchState]
    rfl

/-- A branch whose records a branch event ends may come to its new state before they end (R94). -/
theorem endBranchRecords_setBranchState {e : Ending} (imposed : e.Imposed) (u : State) (b : Fin 4)
    (state : BranchState) :
    (u.endBranchRecords b e).setBranchState b state = (u.setBranchState b state).endBranchRecords b e := by
  unfold State.endBranchRecords
  generalize List.finRange 32 = slots
  induction slots generalizing u with
  | nil => rfl
  | cons slot slots ih => rw [List.foldl_cons, List.foldl_cons, ih, endSlotOf_setBranchState imposed]

theorem lowest_spec {n : Nat} {p : Fin n → Bool} {i : Fin n} (found : lowest p = some i) : p i = true :=
  List.find?_some found

theorem holderOf_spec {b : Fin 4} {n : Fin 16} (found : t.holderOf b n = some slot) (live : t.record slot = some r) :
    r.snapshot.branch = b ∧ ∃ d, r.state = .issued n d := by
  obtain ⟨q, at_slot, holds⟩ := State.recordIs_iff.1 (lowest_spec found)
  obtain rfl := Option.some.inj (live.symm.trans at_slot)
  rw [Bool.and_eq_true, beq_iff_eq, Record.holdsTag_iff] at holds
  exact holds

section Branch

variable {b : Fin 4} (m : s.Moves c t) (high : s.resetLow = false) (reach : s.Reaches c b)
include m high reach

theorem takeResponse (localAddress : Byte) (n : Fin 16) (status : Byte) (payload : List Byte) :
    s.Moves c (t.takeResponse b localAddress n status payload) := by
  unfold State.takeResponse
  split
  next =>
    split
    next =>
      have freed := (m.bumpBranch reach .matchedResponses).setTag reach n .free
      dsimp only
      split
      next slot found =>
        split
        next r live =>
          obtain ⟨rfl, -⟩ := holderOf_spec found live
          exact freed.takeAnswer high live reach status payload
        next => exact freed
      next => exact freed
    next => exact m.bumpBranch reach .mismatched
  all_goals exact m.bumpBranch reach .late

theorem judgeAlert (localAddress : Byte) (payload : List Byte) (severity : Fin 8) (address : Option Address) :
    s.Moves c (t.judgeAlert b localAddress payload severity address) := by
  unfold State.judgeAlert
  split
  next => exact m.bumpBranch reach .alertsSuppressed
  next severe => exact m.postNew high severe (by simp) rfl

theorem alertPath (localAddress : Byte) (payload : List Byte) : s.Moves c (t.alertPath b localAddress payload) := by
  cases found : t.reverseLookup b localAddress with
  | none => exact State.alertPath_of_unmapped found payload ▸ m.judgeAlert high reach _ _ _ _
  | some entry => exact State.alertPath_of_mapped found payload ▸ m.judgeAlert high reach _ _ _ _

theorem classifyBranch (f : BranchFrame) : s.Moves c (t.classifyBranch b f) := by
  unfold State.classifyBranch
  split
  next => exact m.bumpBranch reach .unexpected
  split
  next =>
    split
    next n _ => exact m.takeResponse high reach _ n _ _
    next => exact m.bumpBranch reach .unexpected
  split
  next => exact (m.bumpBranch reach .alertsReceived).alertPath high reach _ _
  next => exact m.bumpBranch reach .unexpected

/-- The count of a bad frame stays in range on a working branch; at its limit the branch works no more (R125). -/
theorem takeBad (works : (t.branch b).state.working = true) : s.Moves c (t.takeBad b) := by
  unfold State.takeBad
  dsimp only
  rw [State.branch_setBranch_self]
  split
  next =>
    rw [State.faultBranch, endBranchRecords_setBranchState (.inl rfl), State.setBranchState, setBranch_twice]
    refine State.Moves.postNew (State.Moves.endBranchRecords (m.port b _ reach fun range => ?_) high reach _) high
      (severity := 6) (data := []) (by decide) (by decide) rfl
    obtain ⟨w1, w4, c1, c255, f1, f15, -, below⟩ := range
    rw [State.branch_setBranch_self]
    exact ⟨w1, w4, c1, c255, f1, f15, Nat.le_trans (below works) f15, nofun⟩
  next apart =>
    refine m.port b _ reach fun range => ?_
    obtain ⟨w1, w4, c1, c255, f1, f15, -, below⟩ := range
    exact ⟨w1, w4, c1, c255, f1, f15, Nat.le_trans (below works) f15, fun _ => Nat.lt_of_le_of_ne (below works) apart⟩

theorem receiveBranch (frame : Option BranchFrame) : s.Moves c (t.receiveBranch b frame) := by
  unfold State.receiveBranch
  split
  next works =>
    split
    next f =>
      refine State.Moves.classifyBranch (m.port b _ reach fun range => ?_) high reach f
      obtain ⟨w1, w4, c1, c255, f1, f15, -, -⟩ := range
      exact ⟨w1, w4, c1, c255, f1, f15, Nat.zero_le _, fun _ => f1⟩
    next => exact m.takeBad high reach works
  next => exact m.bumpBranch reach .framesIgnored

end Branch

theorem startTimer {b : Fin 4} (m : s.Moves c t) (reach : s.Reaches c b) (n : Fin 16) : s.Moves c (t.startTimer b n) := by
  unfold State.startTimer
  split
  next =>
    split
    next slot found =>
      split
      next r live =>
        obtain ⟨rfl, d, issued⟩ := holderOf_spec found live
        refine m.restate live reach ⟨rfl, rfl, rfl, rfl, rfl, rfl⟩ fun sounds => ?_
        obtain ⟨bounded, step, at_step, fits⟩ := State.recordSound_iff.1 (sounds.2 slot r live)
        refine ⟨bounded, step, at_step, ?_⟩
        rw [issued] at fits
        cases step <;> exact fits
      next => exact m
    next => exact m
  next => exact m

theorem timeOut (m : s.Moves c t) (high : s.resetLow = false) (live : t.record slot = some r)
    (reach : s.Reaches c r.snapshot.branch) {n : Fin 16} {d : Option Time} (issued : r.state = .issued n d) :
    s.Moves c (t.timeOut slot r) := by
  unfold State.timeOut
  split
  next below =>
    refine m.queueRecord live reach ⟨rfl, rfl, rfl, rfl, rfl, rfl⟩ fun sounds => ?_
    obtain ⟨⟨short, room, -⟩, step, at_step, fits⟩ := State.recordSound_iff.1 (sounds.2 slot r live)
    exact ⟨⟨short, room, below⟩, step, at_step, fits_queued_of_fits fits fun d => by rw [issued]; nofun⟩
  next => exact m.endTransaction high live (.refl r) reach .timeout

/-- A step with a frame to send takes the record ISSUED wherever its state fits it. -/
theorem fits_issued_of_fits {state : RecordState} {attempts : Nat} {step : Step}
    (fits : state.fits attempts step = true) (sends : ∀ d, step ≠ .pause d) (n : Fin 16) (d : Option Time) :
    (RecordState.issued n d).fits attempts step = true := by
  cases state <;> cases step <;> simp_all [RecordState.fits]

theorem scheduleRecord (m : s.Moves c t) (high : s.resetLow = false) {b : Fin 4} (reach_b : s.Reaches c b)
    (live : t.record slot = some r) (reach : s.Reaches c r.snapshot.branch) : s.Moves c (t.scheduleRecord b slot r) := by
  unfold State.scheduleRecord
  split
  next step n at_step _ =>
    split
    next op payload built =>
      have taken := m.port b ((t.branch b).dequeue slot) reach_b id
      dsimp only
      split
      next => exact taken.endTransaction high live (.refl r) reach .stepOversize
      next =>
        refine ((taken.restate (q := { r with state := .issued n none }) live reach ⟨rfl, rfl, rfl, rfl, rfl, rfl⟩
          fun sounds => ?_).port b _ reach_b ?_).bumpBranch reach_b .exchangesIssued
        case refine_2 => exact id
        obtain ⟨bounded, step', at_step', fits⟩ := State.recordSound_iff.1 (sounds.2 slot r live)
        obtain rfl := Option.some.inj (at_step.symm.trans at_step')
        refine ⟨bounded, step, at_step, fits_issued_of_fits fits ?_ n none⟩
        rintro d rfl
        cases built
    next => exact m
  next => exact m

end State.Moves

end Sys2Proof.Machine
end

section
/-! Every command as moves: Admission, the frames of the trunk, the management requests, the traffic and the timers of the
branches, and the resets that the moves of a command may begin with. -/

namespace Sys2Proof.Machine

/-! ### The lookups -/

theorem State.forwardLookup_spec {s : State} {address : Address} {i : Fin 128} {r : LiveRoute}
    (found : s.forwardLookup address = some (i, r)) : (s.route i).live = some r ∧ r.config.globalAddress = address := by
  obtain ⟨j, -, at_j⟩ := List.exists_of_findSome?_eq_some found
  split at at_j
  next q live =>
    split at at_j
    next holds => cases at_j; exact ⟨live, holds⟩
    next => cases at_j
  next => cases at_j

theorem State.forwardLookup_eq_none {s : State} {address : Address} :
    s.forwardLookup address = none ↔ ∀ i r, (s.route i).live = some r → r.config.globalAddress ≠ address := by
  unfold State.forwardLookup
  rw [List.findSome?_eq_none_iff]
  refine forall_congr' fun i => ?_
  cases live : (s.route i).live <;> simp

/-! ### Admission -/

/-- A request is accepted where it has passed every check (R70 to R75). -/
theorem State.judgeRequest_eq_accept {s : State} {q : TrunkRequest} {i : Fin 128} {c : RouteConfig} {op : Op}
    {tag : Fin 64} {first : Option Step} (accepted : s.judgeRequest q = .accept i c op tag first) :
    q.header = some (op, tag) ∧ (∃ recipe, s.recipeOf (c.recipeFor op) op = some recipe ∧ first = recipe.steps[0]?) ∧
      (s.branch c.branch).state = .enabled ∧ s.slotOfTag q.tag = none ∧ s.budgetInUse < 32 := by
  unfold State.judgeRequest at accepted
  repeat' split at accepted
  all_goals cases accepted
  exact ⟨‹_›, ⟨_, ‹s.recipeOf _ _ = _›, rfl⟩, ‹(s.branch _).state = _›,
    by simpa using ‹¬(s.slotOfTag _).isSome = true›, Nat.lt_of_not_le ‹¬Config.budget ≤ _›⟩

/-! ### What a request may write -/

/-- A written entry keeps the table sound: it is in range and in conflict with none (R11, R32). -/
theorem State.RoutesSound.write {s : State} (sound : s.RoutesSound) (high : s.resetLow = false) {i : Fin 128}
    {c : RouteConfig} (low : 1 ≤ c.localAddress.toNat) (top : c.localAddress.toNat ≤ 126) (timeout : c.timeout ≠ 0)
    (clear : ¬s.routeConflict i c = true) (generation : BitVec 8) :
    (s.setRoute i ⟨generation, some ⟨c, false, 0⟩⟩).RoutesSound := by
  obtain ⟨⟨addresses, places, apart⟩, ranges, -⟩ := sound
  rw [State.routeConflict_iff] at clear
  have entry {j : Fin 128} {r : LiveRoute} (live : ((s.setRoute i ⟨generation, some ⟨c, false, 0⟩⟩).route j).live = some r) :
      (j = i ∧ r = ⟨c, false, 0⟩) ∨ (j ≠ i ∧ (s.route j).live = some r) := by
    rw [State.route_setRoute] at live
    split at live
    next same => exact .inl ⟨same.symm, (Option.some.inj live).symm⟩
    next other => exact .inr ⟨Ne.symm other, live⟩
  refine ⟨⟨fun j k r at_j q at_k same => ?_, fun j k r at_j q at_k branch same => ?_, fun j r at_j => ?_⟩,
    fun j r at_j => ?_, fun is_low => ?_⟩
  · rcases entry at_j with ⟨rfl, rfl⟩ | ⟨other, live⟩ <;> rcases entry at_k with ⟨rfl, rfl⟩ | ⟨other', live'⟩
    · rfl
    · exact absurd (.inr ⟨k, q, other', live', .inl same.symm⟩) clear
    · exact absurd (.inr ⟨j, r, other, live, .inl same⟩) clear
    · exact addresses j k r live q live' same
  · rcases entry at_j with ⟨rfl, rfl⟩ | ⟨other, live⟩ <;> rcases entry at_k with ⟨rfl, rfl⟩ | ⟨other', live'⟩
    · rfl
    · exact absurd (.inr ⟨k, q, other', live', .inr ⟨branch.symm, same.symm⟩⟩) clear
    · exact absurd (.inr ⟨j, r, other, live, .inr ⟨branch, same⟩⟩) clear
    · exact places j k r live q live' branch same
  · rcases entry at_j with ⟨rfl, rfl⟩ | ⟨other, live⟩
    · exact fun own => clear (.inl own)
    · exact apart j r live
  · rcases entry at_j with ⟨rfl, rfl⟩ | ⟨other, live⟩
    · exact ⟨low, top, timeout, fun _ limit => by bv_omega⟩
    · exact ranges j r live
  · exact absurd (high.symm.trans is_low) nofun

theorem sound_of_readProfile {record : List Byte} {v : CheckProfile} (read : readProfile record = some v) :
    v.Sound := by
  have fields := read
  unfold readProfile at fields
  split at fields
  next =>
    obtain ⟨w, -, -, sound, -⟩ := readProfile_eq_some.1 read
    exact sound
  next => cases fields

theorem stepRecords_length (n : Nat) (bytes : List Byte) : (stepRecords n bytes).length = n := by
  induction n generalizing bytes with
  | zero => rfl
  | succ n ih => simp [stepRecords, ih]

/-- What test 3 of R54 lets through: as many steps as records, each in range, the running capture total within 64. -/
theorem loadSteps_eq_ok {records : List (List Byte)} {i total : Nat} {steps : List Step}
    (loaded : loadSteps records i total = .ok steps) (room : total ≤ 64) :
    steps.length = records.length ∧ (∀ step ∈ steps, step.inRange = true) ∧ total + captureTotal steps ≤ 64 := by
  induction records generalizing i total steps with
  | nil =>
    cases loaded
    exact ⟨rfl, nofun, by simpa [captureTotal] using room⟩
  | cons record records ih =>
    unfold loadSteps at loaded
    split at loaded
    next => cases loaded
    next step read =>
      split at loaded
      next => cases loaded
      next within =>
        split at loaded
        next => cases loaded
        next rest at_rest =>
          cases loaded
          obtain ⟨length, ranges, captured⟩ := ih at_rest (Nat.le_of_not_lt within)
          refine ⟨by simp [length], ?_, by rw [captureTotal_cons]; omega⟩
          rintro other (_ | ⟨_, later⟩)
          · exact (readStep_eq_some.1 read).1
          · exact ranges other later

theorem loadedRecipe_sound {count : Byte} {bytes : List Byte} {steps : List Step}
    (loaded : loadSteps (stepRecords count.toNat bytes) 0 0 = .ok steps) (counted : ¬(count = 0 ∨ 9 ≤ count.toNat)) :
    (loadedRecipe steps).Sound := by
  obtain ⟨length, ranges, captured⟩ := loadSteps_eq_ok loaded (Nat.zero_le 64)
  rw [stepRecords_length] at length
  have bounds : 1 ≤ count.toNat ∧ count.toNat ≤ 8 := by bv_omega
  refine ⟨length ▸ bounds.1, length ▸ bounds.2, ranges, rfl, rfl, by simpa [loadedRecipe] using captured⟩

namespace State.Moves

variable {c : Instr} {s t : State}

/-- A request that Admission accepts becomes a record at the first step of its recipe (R77, R78). -/
theorem admission (m : s.Moves c t) (records : t.records = s.records) (reach : ∀ b, s.Reaches c b) (q : TrunkRequest) :
    s.Moves c (t.admission q) := by
  unfold State.admission
  split
  next status _ => exact (m.bumpTrunk status.counter).joinOrDrop (buildTrunk_built (.inl rfl) _ _ _ _)
  next i config op tag first accepted =>
    obtain ⟨header, ⟨recipe, loaded, rfl⟩, -, unused, room⟩ := State.judgeRequest_eq_accept accepted
    obtain ⟨-, tag_eq, short, -⟩ := TrunkRequest.header_eq_some.1 header
    unfold State.createRecord
    split
    next slot step found at_first =>
      have free : t.record slot = none := by simpa using lowest_spec found
      have new (j : Fin 32) (r : Record) (live : t.record j = some r) : r.trunkTag ≠ tag := by
        rintro rfl
        have used := State.slotOfTag_isSome_iff.2 ⟨j, r, live, tag_eq.symm⟩
        simp [unused] at used
      generalize (t.route i).generation = generation
      have created (state : RecordState) (fits : step.inRange = true → state.fits 0 step = true) :=
        m.create (slot := slot) { newRecord q i generation config op tag with state := state } records free (reach _) new
          room fun sounds => by
            have steps : t.stepsOf { newRecord q i generation config op tag with state := state } = recipe.steps := by
              simp only [State.stepsOf, newRecord, loaded]
            have at_step : (t.stepsOf { newRecord q i generation config op tag with state := state })[0]? = some step := by
              rw [steps, at_first]
            exact State.recordSound_iff.2 ⟨⟨short, Nat.zero_le _, Nat.zero_le _⟩, step, at_step,
              fits (inRange_of_recordsSound sounds at_step)⟩
      cases step with
      | pause duration => exact created _ fun _ => rfl
      | issue | await =>
        exact (created .queued fun range => fits_queued_of_inRange range nofun).port _ _ (reach _) fun range =>
          range.enqueue _ slot
    next => exact m

/-! ### The frames of the trunk -/

theorem enterManage (m : s.Moves c t) (q : ManageRequest) : s.Moves c (t.enterManage q) := by
  by_cases space : t.inq.length < Config.inputPlaces
  · have entered : t.enterManage q =
        { t with inq := (t.enterManage q).inq, agent := (t.enterManage q).agent } := by
      unfold State.enterManage
      rw [if_pos space]
      dsimp only
      split
      next =>
        rcases ({ t with inq := t.inq ++ [q] } : State).agentNext_cases
          with ⟨-, next⟩ | ⟨q, rest, -, -, next⟩ | ⟨q, rest, -, -, next⟩ <;> rw [next]
      all_goals rfl
    refine m.ofTrunk ?_ (fun fit => fit.enterManage q) ?_
    · rw [entered]
    · rw [entered]
  · unfold State.enterManage
    rw [if_neg space]
    exact m.joinOrDrop (buildTrunk_built (.inr (.inl rfl)) _ _ _ _)

theorem takeManage (m : s.Moves c t) (address : Address) (q : ManageRequest) : s.Moves c (t.takeManage address q) := by
  unfold State.takeManage
  split
  next => exact m.enterManage q
  next => exact m.bumpTrunk .misaddressed

theorem takeHold (m : s.Moves c t) (address : Address) : s.Moves c (t.takeHold address) := by
  unfold State.takeHold
  split
  next => exact m.ofTrunk rfl (fun fit => fit.hold) le_rfl
  next => exact m

theorem takeRelease (m : s.Moves c t) (address : Address) : s.Moves c (t.takeRelease address) := by
  unfold State.takeRelease
  split
  next => exact m.ofTrunk rfl (fun fit => fit.release) le_rfl
  next => exact m

theorem endTransmission (m : s.Moves c t) : s.Moves c t.endTransmission := by
  refine m.ofTrunk ?_ (fun fit => fit.endTransmission) ?_
  · unfold State.endTransmission
    split <;> rfl
  · unfold State.endTransmission
    split
    · exact (List.tail_sublist t.toq).countP_le
    · exact le_rfl

theorem resolvePending (m : s.Moves c t) : s.Moves c t.resolvePending := by
  unfold State.resolvePending
  split
  next offered =>
    have dropped := m.aside t.now t.trunkCounters false
    split
    next =>
      refine dropped.pooled ((t.poolFree_iff).1 ?_) (buildTrunk_built (.inr (.inr rfl)) _ _ _ _)
      exact ((Bool.and_eq_true _ _).mp offered).2
    next => exact dropped
  next => exact m

theorem takeRequest (m : s.Moves c t) : s.Moves c t.takeRequest := by
  unfold State.takeRequest
  split
  next => exact m
  all_goals exact m.agentNext

theorem receiveGood (m : s.Moves c t) (payload : List Byte) {act : State → State}
    (moved : s.Moves c (act (t.bumpTrunk .goodFrames))) : s.Moves c (t.receiveGood payload act) := by
  unfold State.receiveGood
  split
  · exact moved
  · exact m.bumpTrunk .checkErrors

theorem receiveTrunk (m : s.Moves c t) (records : t.records = s.records) (reach : ∀ b, s.Reaches c b)
    (content : List Byte) : s.Moves c (t.receiveTrunk content) := by
  unfold State.receiveTrunk
  split
  next f _ =>
    have good := m.bumpTrunk .goodFrames
    unfold State.classifyTrunk
    split
    · exact good.admission records reach _
    split
    · exact good.takeManage _ _
    split
    · exact good.takeHold _
    split
    · exact good.takeRelease _
    · exact good.bumpTrunk .unknownKind
  next => exact m.bumpTrunk .checkErrors

/-! ### The management requests -/

theorem running {act : State → State} (moved : s.resetLow = false → s.Moves c (act s)) :
    s.Moves c (s.running act) := by
  unfold State.running
  split
  · exact .start
  next high => exact moved (Bool.eq_false_of_not_eq_true high)

theorem carryOut {code : Byte} {act : List Byte → State → State}
    (moved : ∀ payload, s.resetLow = false → lengthAccepted code payload = true → s.Moves c (act payload s)) :
    s.Moves c (s.carryOut code act) := by
  rcases s.carryOut_cases code act with same | ⟨q, -, -, high, ⟨-, misfit⟩ | ⟨fits, acted⟩⟩
  · rw [same]; exact .start
  · exact misfit ▸ State.Moves.start.answer .badRequest []
  · exact acted ▸ moved q.payload high fits

theorem onIndex {n : Nat} {act : Fin n → State → State} (moved : ∀ i, s.Moves c (act i s)) (payload : List Byte) :
    s.Moves c (Machine.onIndex n act payload s) := by
  unfold Machine.onIndex
  repeat' split
  · exact moved _
  · exact State.Moves.start.answer .badValue []
  · exact .start

theorem counterRead (payload : List Byte) : s.Moves .counterRead (Machine.counterRead payload s) := by
  unfold Machine.counterRead
  split
  next group clear =>
    split
    · exact State.Moves.start.answer .badValue []
    split
    next b _ =>
      refine State.Moves.answer ?_ _ _
      split
      · exact State.Moves.start.port b _ trivial id
      · exact .start
    next =>
      refine State.Moves.answer ?_ _ _
      split
      · exact State.Moves.start.aside s.now _ s.attentionPending
      · exact .start
  next => exact .start

theorem setOwnAddress (payload : List Byte) : s.Moves c (Machine.setOwnAddress payload s) := by
  unfold Machine.setOwnAddress
  split
  next a1 a0 =>
    split
    · exact State.Moves.start.answer .conflict []
    next unheld =>
      refine (State.Moves.start.answer .done []).routes _ _ (fun sound => ?_) fun _ _ _ => rfl
      obtain ⟨⟨addresses, places, -⟩, ranges, empty⟩ := sound
      refine ⟨⟨addresses, places, fun i r live => ?_⟩, ranges, empty⟩
      have unheld := State.forwardLookup_eq_none.1 (Option.not_isSome_iff_eq_none.1 unheld)
      exact unheld i r (by simpa [State.route] using live)
  next => exact .start

theorem routeWrite (high : s.resetLow = false) (payload : List Byte) : s.Moves .routeWrite (Machine.routeWrite payload s) := by
  unfold Machine.routeWrite
  split
  next index record =>
    split
    next i config _ read =>
      split
      · exact State.Moves.start.answer .conflict []
      next clear =>
        obtain ⟨low, top, timeout, -⟩ := readRoute_eq_some.1 read
        refine State.Moves.answer (State.Moves.start.routes _ s.ownAddress (fun sound => ?_) nofun) _ _
        exact sound.write high low top timeout clear _
    next => exact State.Moves.start.answer .badValue []
  next => exact .start

theorem routeDelete (i : Fin 128) : s.Moves .routeDelete (Machine.routeDelete i s) := by
  unfold Machine.routeDelete
  split
  · exact State.Moves.start.answer .notFound []
  · exact (State.Moves.start (c := .routeDelete) (s := s)).setRoute (by simp) (fun _ other => absurd rfl other) |>.answer _ _

theorem routeReinstate (i : Fin 128) : s.Moves c (Machine.routeReinstate i s) := by
  unfold Machine.routeReinstate
  split
  next => exact State.Moves.start.answer .notFound []
  next r live =>
    refine (State.Moves.start.setLive (q := ⟨r.config, false, 0⟩) live rfl fun sound => ?_).answer _ _
    obtain ⟨low, high, timeout, -⟩ := sound
    exact ⟨low, high, timeout, fun _ limit => by bv_omega⟩

theorem profileWrite (payload : List Byte) :
    s.Moves .profileWrite (Machine.profileWrite payload s) := by
  unfold Machine.profileWrite
  split
  next index record =>
    split
    next p v _ read =>
      split
      · exact State.Moves.start.answer .inUse []
      next unused =>
        exact (State.Moves.start.profile p v rfl (Bool.eq_false_of_not_eq_true unused) (sound_of_readProfile read)).answer _ _
    next => exact State.Moves.start.answer .badValue []
  next => exact .start

theorem recipeWrite (payload : List Byte) : s.Moves .recipeWrite (Machine.recipeWrite payload s) := by
  unfold Machine.recipeWrite
  split
  next index count records =>
    split
    · exact State.Moves.start.answer .badValue _
    split
    · exact State.Moves.start.answer .badValue _
    next counted =>
      split
      · exact State.Moves.start.answer .badValue _
      next steps loaded =>
        split
        · exact State.Moves.start.answer .inUse []
        next unused =>
          refine (State.Moves.start.recipe _ _ (.inl rfl) (Bool.eq_false_of_not_eq_true unused) rfl fun r held => ?_).answer _ _
          obtain rfl := Option.some.inj held
          exact loadedRecipe_sound loaded counted
  next => exact .start

theorem recipeClear (k : Fin 32) : s.Moves .recipeClear (Machine.recipeClear k s) := by
  unfold Machine.recipeClear
  split
  · exact State.Moves.start.answer .notFound []
  split
  · exact State.Moves.start.answer .inUse []
  next unused =>
    exact (State.Moves.start.recipe k none (.inr rfl) (Bool.eq_false_of_not_eq_true unused) rfl nofun).answer _ _

theorem constWrite (payload : List Byte) (fits : lengthAccepted 0x33 payload = true) :
    s.Moves c (Machine.constWrite payload s) := by
  unfold Machine.constWrite
  split
  next index content =>
    split
    next k _ =>
      obtain ⟨-, short⟩ := lengthAccepted_constWrite.1 fits
      exact (State.Moves.start.block k content (Nat.le_of_succ_le_succ short)).answer _ _
    next => exact State.Moves.start.answer .badValue []
  next => exact .start

theorem branchConfig (payload : List Byte) : s.Moves .branchConfig (Machine.branchConfig payload s) := by
  unfold Machine.branchConfig
  split
  next branch window cool fault profile severity =>
    split
    next b settings _ read =>
      split
      · exact State.Moves.start.answer .badState []
      next closed =>
        refine ((State.Moves.start (c := .branchConfig)).port b _ trivial fun range => ?_).answer _ _
        obtain ⟨⟨window_pos, window_max, cool_pos, fault_pos, fault_max⟩, p, v, -, -, rfl⟩ := readSettings_eq_some.1 read
        obtain ⟨-, -, -, -, -, -, count, -⟩ := range
        exact ⟨one_le_toNat_iff.2 window_pos, window_max, one_le_toNat_iff.2 cool_pos, Nat.le_of_lt_succ cool.isLt,
          one_le_toNat_iff.2 fault_pos, fault_max, count, fun works => absurd works closed⟩
    next => exact State.Moves.start.answer .badValue []
  next => exact .start

theorem branchEnable (b : Fin 4) : s.Moves .branchEnable (Machine.branchEnable b s) := by
  unfold Machine.branchEnable
  split
  · exact State.Moves.start.answer .badState []
  · refine ((State.Moves.start (c := .branchEnable)).port b _ trivial fun range => ?_).answer _ _
    obtain ⟨w1, w4, c1, c255, f1, f15, -, -⟩ := range
    exact ⟨w1, w4, c1, c255, f1, f15, Nat.zero_le _, fun _ => f1⟩

theorem branchDisable (high : s.resetLow = false) (b : Fin 4) :
    s.Moves .branchDisable (Machine.branchDisable b s) := by
  unfold Machine.branchDisable
  split
  · have ended := (State.Moves.start (c := .branchDisable)).endBranchRecords high (b := b) trivial .branchDown
    exact (ended.close trivial rfl).answer _ _
  · exact State.Moves.start.answer .done []

theorem branchDrain (high : s.resetLow = false) (payload : List Byte) :
    s.Moves .branchDrain (Machine.branchDrain payload s) := by
  unfold Machine.branchDrain
  split
  next branch d1 d0 =>
    split
    · exact State.Moves.start.answer .badValue []
    next b _ =>
      split
      · exact State.Moves.start.answer .badValue []
      split
      next enabled =>
        have begun : s.Moves .branchDrain s := .start
        refine (State.Moves.checkDrained (begun.port b _ trivial fun range => ?_) high trivial).answer _ _
        obtain ⟨w1, w4, c1, c255, f1, f15, count, below⟩ := range
        exact ⟨w1, w4, c1, c255, f1, f15, count, fun _ => below (by rw [enabled]; rfl)⟩
      all_goals exact State.Moves.start.answer _ []
  next => exact .start

theorem transactionAbort (high : s.resetLow = false) (payload : List Byte) :
    s.Moves .transactionAbort (Machine.transactionAbort payload s) := by
  unfold Machine.transactionAbort
  split
  next tag =>
    split
    · exact State.Moves.start.answer .badValue []
    split
    · exact State.Moves.start.answer .notFound []
    next slot _ =>
      split
      · exact .start
      next r live =>
        have undone := State.Moves.start.undo (c := .transactionAbort) (s := s) (r := r) trivial slot
        exact (undone.endTransaction high (by simpa [State.record] using live) (.refl r) trivial _).answer _ _
  next => exact .start

theorem noticeClaim (high : s.resetLow = false) (payload : List Byte) :
    s.Moves c (Machine.noticeClaim payload s) := by
  unfold Machine.noticeClaim
  split
  next minimum =>
    split
    · exact State.Moves.start.answer .badValue []
    split
    · exact State.Moves.start.answer .empty []
    next i _ =>
      split
      · exact .start
      next n at_i =>
        refine (State.Moves.start.judged high _ s.threshold s.lease _ _ (fun fit => ?_) id).answer _ _
        exact fit.set (fit.2.1 n (List.mem_of_getElem? at_i)) nofun
  next => exact .start

theorem noticeRetire (high : s.resetLow = false) (payload : List Byte) :
    s.Moves c (Machine.noticeRetire payload s) := by
  unfold Machine.noticeRetire
  split
  next id =>
    split
    next i found =>
      obtain ⟨lt, claimed, -⟩ := List.findIdx?_eq_some_iff_getElem.1 found
      obtain ⟨d, claim, -⟩ := Notice.claimedAs_iff.1 claimed
      refine (State.Moves.start.notices (s.notices.eraseIdx i) s.threshold s.lease s.nextClaim s.lost s.attn high
        (fun fit => fit.sublist (List.eraseIdx_sublist _ i)) (fun follows => ?_) fun range => range).answer _ _
      rw [any_calls_eraseIdx_of_claimed (List.getElem?_eq_getElem lt) claim]
      exact follows
    next => split <;> exact State.Moves.start.answer _ []
  next => exact .start

theorem noticeSettings (high : s.resetLow = false) (payload : List Byte) :
    s.Moves c (Machine.noticeSettings payload s) := by
  unfold Machine.noticeSettings
  split
  next threshold lease =>
    split
    · exact State.Moves.start.answer .badValue []
    split
    · exact State.Moves.start.answer .badValue []
    next bounds =>
      refine (State.Moves.start.judged high s.notices _ lease.toNat s.nextClaim s.lost id fun _ => ?_).answer _ _
      have : lease ≠ 0 ∧ lease.toNat ≤ 60 := by simpa [not_or] using bounds
      exact ⟨one_le_toNat_iff.2 this.1, this.2⟩
  next => exact .start

theorem expireLease (m : s.Moves c t) (high : s.resetLow = false) (place : Nat) : s.Moves c (t.expireLease place) := by
  unfold State.expireLease
  split
  · exact m
  next n at_place =>
    split
    · exact m
    next d claimed =>
      exact (m.reach d.deadline).judged high _ t.threshold t.lease t.nextClaim t.lost
        (fun fit => fit.lapse at_place claimed d.id) id

theorem freshAttention (m : s.Moves c t) : s.Moves c t.freshAttention := by
  unfold State.freshAttention
  split
  · exact m.requestAttention
  · exact m

end State.Moves

/-! ### The commands -/

/-- The states that a command's moves begin from: the state it meets, or what a reset makes of it. -/
inductive State.Begins (s : State) : Instr → State → Prop
  | same (c : Instr) : State.Begins s c s
  | hardReset : State.Begins s .hardReset s.hardReset
  | hardResetEnd (straps : BitVec 4) : State.Begins s (.hardResetEnd straps) (s.endHardReset straps)
  | traffic {q : ManageRequest} (run : s.agent = .executing q) (high : s.resetLow = false) :
    State.Begins s .softResetTraffic s.afterTraffic
  | full {q : ManageRequest} (run : s.agent = .executing q) (high : s.resetLow = false) :
    State.Begins s .softResetFull s.afterFull

/-- A soft reset of a scope: nothing, or the reset and then the moves of its replies. -/
theorem softReset_moves {c : Instr} {s : State} {scope : Byte → Bool} {reset reply : State → State}
    (begins : ∀ q, s.agent = .executing q → s.resetLow = false → s.Begins c (reset s))
    (replies : ∀ u : State, u.Moves c (reply u)) :
    ∃ u, s.Begins c u ∧ u.Moves c (s.carryOut 0x04 (softReset scope fun s => reply (reset s))) := by
  rcases s.carryOut_cases 0x04 (softReset scope fun s => reply (reset s)) with
    same | ⟨q, run, -, high, ⟨-, misfit⟩ | ⟨-, acted⟩⟩
  · exact ⟨s, .same c, by rw [same]; exact .start⟩
  · exact ⟨s, .same c, misfit ▸ State.Moves.start.answer .badRequest []⟩
  · rw [acted]
    unfold softReset
    split
    · split
      · exact ⟨reset s, begins q run high, replies _⟩
      · exact ⟨s, .same c, .start⟩
    · exact ⟨s, .same c, .start⟩

/-- A record at the head of a branch's Issue Queue is one of the branch, where the queues are sound. -/
theorem State.IssueQueuesSound.branch_eq {s : State} (sound : s.IssueQueuesSound) {b : Fin 4} {slot : Fin 32}
    (queued : slot ∈ (s.branch b).issueQueue) {r : Record} (live : s.record slot = some r) : r.snapshot.branch = b := by
  obtain ⟨-, members⟩ := sound b
  obtain ⟨urgent, normal⟩ := members slot
  rcases List.mem_append.1 queued with mem | mem
  · obtain ⟨q, at_slot, holds⟩ := State.recordIs_iff.1 (urgent.1 mem)
    cases live.symm.trans at_slot
    simp only [Bool.and_eq_true, beq_iff_eq] at holds
    exact holds.1.1
  · obtain ⟨q, at_slot, holds⟩ := State.recordIs_iff.1 (normal.1 mem)
    cases live.symm.trans at_slot
    simp only [Bool.and_eq_true, beq_iff_eq] at holds
    exact holds.1.1

section Expiries

open State.Moves

variable (s : State) (b : Fin 4)

theorem schedulerIssue_moves : ∃ t, exec (.schedulerIssue b) s = .next t ∧ s.Moves (.schedulerIssue b) t := by
  refine ⟨_, rfl, .running fun high => ?_⟩
  split
  next =>
    split
    next slot rest head =>
      split
      next r live =>
        exact start.scheduleRecord high (fun _ => rfl) live fun sound =>
          sound.branch_eq (by rw [head]; exact List.mem_cons_self) live
      next => exact start
    next => exact start
  next => exact start

theorem branchTransmissionEnd_moves :
    ∃ t, exec (.branchTransmissionEnd b) s = .next t ∧ s.Moves (.branchTransmissionEnd b) t := by
  refine ⟨_, rfl, .running fun high => ?_⟩
  have begun : s.Moves (.branchTransmissionEnd b) s := start
  split
  next f _ => exact (begun.port b { s.branch b with tx := none } rfl id).startTimer rfl f.tag
  next => exact begun

theorem exchangeTimerExpiry_moves (n : Fin 16) :
    ∃ t, exec (.exchangeTimerExpiry b n) s = .next t ∧ s.Moves (.exchangeTimerExpiry b n) t := by
  refine ⟨_, rfl, .running fun high => ?_⟩
  have begun : s.Moves (.exchangeTimerExpiry b n) s := start
  split
  next slot found =>
    split
    next r live =>
      split
      next m deadline issued =>
        obtain ⟨rfl, -⟩ := holderOf_spec found live
        exact (((begun.reach deadline).bumpBranch rfl .timeouts).coolTag rfl n).timeOut high live rfl issued
      all_goals exact begun
    next => exact begun
  next => exact begun

theorem coolDeadlineExpiry_moves (n : Fin 16) :
    ∃ t, exec (.coolDeadlineExpiry b n) s = .next t ∧ s.Moves (.coolDeadlineExpiry b n) t := by
  refine ⟨_, rfl, .running fun high => ?_⟩
  have begun : s.Moves (.coolDeadlineExpiry b n) s := start
  split
  next deadline _ => exact (begun.reach deadline).setTag rfl n .free
  all_goals exact begun

theorem drainDeadlineExpiry_moves :
    ∃ t, exec (.drainDeadlineExpiry b) s = .next t ∧ s.Moves (.drainDeadlineExpiry b) t := by
  refine ⟨_, rfl, .running fun high => ?_⟩
  have begun : s.Moves (.drainDeadlineExpiry b) s := start
  split
  next deadline _ =>
    have ended := (begun.reach deadline).endBranchRecords high rfl .aborted
    exact (ended.close rfl rfl).postNew high (severity := 4) (data := []) (by decide) (by decide) rfl
  all_goals exact begun

theorem spacingExpiry_moves (slot : Fin 32) :
    ∃ t, exec (.spacingExpiry slot) s = .next t ∧ s.Moves (.spacingExpiry slot) t := by
  refine ⟨_, rfl, .running fun high => ?_⟩
  split
  next r live =>
    split
    next deadline spacing =>
      refine (start.reach deadline).queueRecord live trivial (.refl r) fun sounds => ?_
      obtain ⟨bounded, step, at_step, fits⟩ := State.recordSound_iff.1 (sounds.2 slot r live)
      exact ⟨bounded, step, at_step, fits_queued_of_fits fits fun d => by rw [spacing]; nofun⟩
    all_goals exact start
  next => exact start

theorem pauseExpiry_moves (slot : Fin 32) :
    ∃ t, exec (.pauseExpiry slot) s = .next t ∧ s.Moves (.pauseExpiry slot) t := by
  refine ⟨_, rfl, .running fun high => ?_⟩
  split
  next r live =>
    split
    next deadline _ =>
      refine (start.reach deadline).advance high live trivial (.refl r) fun sounds => ?_
      exact (State.recordSound_iff.1 (sounds.2 slot r live)).1
    all_goals exact start
  next => exact start

end Expiries

section Commands

open State.Moves

/-- Every command answers a next state, which moves of its own lead to from where it begins. -/
theorem exec_moves (c : Instr) (s : State) : ∃ u t, s.Begins c u ∧ exec c s = .next t ∧ u.Moves c t := by
  have plain : (∃ t, exec c s = .next t ∧ s.Moves c t) → ∃ u t, s.Begins c u ∧ exec c s = .next t ∧ u.Moves c t :=
    fun ⟨t, is, m⟩ => ⟨s, t, .same c, is, m⟩
  cases c with
  | hardReset => exact ⟨_, _, .hardReset, rfl, start⟩
  | hardResetEnd straps => exact ⟨_, _, .hardResetEnd straps, rfl, start⟩
  | trunkFrame content =>
      exact plain ⟨_, rfl, running fun _ => receiveTrunk start (c := .trunkFrame content) rfl (fun _ => trivial) _⟩
  | request flags address tag op payload =>
    exact plain ⟨_, rfl, running fun _ =>
      receiveGood start payload (admission (start.bumpTrunk _) (c := .request flags address tag op payload)
        rfl (fun _ => trivial) _)⟩
  | manage address tag code payload =>
    exact plain ⟨_, rfl, running fun _ => start.receiveGood payload ((start.bumpTrunk _).takeManage _ _)⟩
  | hold address => exact plain ⟨_, rfl, running fun _ => start.receiveGood [] ((start.bumpTrunk _).takeHold _)⟩
  | release address => exact plain ⟨_, rfl, running fun _ => start.receiveGood [] ((start.bumpTrunk _).takeRelease _)⟩
  | trunkTransmissionEnd => exact plain ⟨_, rfl, running fun _ => start.endTransmission⟩
  | pendingRequestResolved => exact plain ⟨_, rfl, running fun _ => start.resolvePending⟩
  | takeRequest => exact plain ⟨_, rfl, running fun _ => start.takeRequest⟩
  | unknownManagementCode =>
    refine plain ⟨_, rfl, running fun _ => ?_⟩
    split
    · split
      · exact start
      · exact start.answer .badRequest []
    all_goals exact start
  | softResetTraffic =>
    obtain ⟨u, begins, m⟩ := softReset_moves (c := .softResetTraffic) (s := s) (scope := (· == 1))
      (fun _ run high => .traffic run high) fun u => (start.answer .done [1]).freshAttention
    exact ⟨u, _, begins, rfl, m⟩
  | softResetFull =>
    obtain ⟨u, begins, m⟩ := softReset_moves (c := .softResetFull) (s := s) (scope := (· == 2))
      (fun _ run high => .full run high) fun u => start.answer .done [2]
    exact ⟨u, _, begins, rfl, m⟩
  | softResetBadValue =>
    obtain ⟨u, begins, m⟩ := softReset_moves (c := .softResetBadValue) (s := s) (scope := fun b => b != 1 && b != 2)
      (reset := id) (fun _ _ _ => .same _) fun u => start.answer .badValue []
    exact ⟨u, _, begins, rfl, m⟩
  | statusRead | pendingRead => exact plain ⟨_, rfl, carryOut fun _ _ _ => start.answer _ _⟩
  | routeRead | profileRead | recipeRead | constRead =>
    exact plain ⟨_, rfl, carryOut fun payload _ _ => .onIndex (fun _ => start.answer _ _) payload⟩
  | counterRead => exact plain ⟨_, rfl, carryOut fun payload _ _ => .counterRead payload⟩
  | setOwnAddress => exact plain ⟨_, rfl, carryOut fun payload _ _ => .setOwnAddress payload⟩
  | routeWrite => exact plain ⟨_, rfl, carryOut fun payload high _ => .routeWrite high payload⟩
  | routeDelete => exact plain ⟨_, rfl, carryOut fun payload _ _ => .onIndex (fun i => .routeDelete i) payload⟩
  | routeReinstate => exact plain ⟨_, rfl, carryOut fun payload _ _ => .onIndex (fun i => .routeReinstate i) payload⟩
  | profileWrite => exact plain ⟨_, rfl, carryOut fun payload _ _ => .profileWrite payload⟩
  | recipeWrite => exact plain ⟨_, rfl, carryOut fun payload _ _ => .recipeWrite payload⟩
  | recipeClear => exact plain ⟨_, rfl, carryOut fun payload _ _ => .onIndex (fun k => .recipeClear k) payload⟩
  | constWrite => exact plain ⟨_, rfl, carryOut fun payload _ fits => .constWrite payload fits⟩
  | branchConfig => exact plain ⟨_, rfl, carryOut fun payload _ _ => .branchConfig payload⟩
  | branchEnable => exact plain ⟨_, rfl, carryOut fun payload _ _ => .onIndex (fun b => .branchEnable b) payload⟩
  | branchDrain => exact plain ⟨_, rfl, carryOut fun payload high _ => .branchDrain high payload⟩
  | branchDisable =>
    exact plain ⟨_, rfl, carryOut fun payload high _ => .onIndex (fun b => .branchDisable high b) payload⟩
  | transactionAbort => exact plain ⟨_, rfl, carryOut fun payload high _ => .transactionAbort high payload⟩
  | noticeClaim => exact plain ⟨_, rfl, carryOut fun payload high _ => .noticeClaim high payload⟩
  | noticeRetire => exact plain ⟨_, rfl, carryOut fun payload high _ => .noticeRetire high payload⟩
  | noticeSettings => exact plain ⟨_, rfl, carryOut fun payload high _ => .noticeSettings high payload⟩
  | branchFrame b content =>
    exact plain ⟨_, rfl, running fun high => .receiveBranch start high (c := .branchFrame b content) rfl _⟩
  | branchResponse b localAddress tag status payload =>
    exact plain ⟨_, rfl, running fun high =>
      .receiveBranch start high (c := .branchResponse b localAddress tag status payload) rfl _⟩
  | alert b localAddress payload =>
    exact plain ⟨_, rfl, running fun high => .receiveBranch start high (c := .alert b localAddress payload) rfl _⟩
  | schedulerIssue b => exact plain (schedulerIssue_moves s b)
  | branchTransmissionEnd b => exact plain (branchTransmissionEnd_moves s b)
  | exchangeTimerExpiry b n => exact plain (exchangeTimerExpiry_moves s b n)
  | coolDeadlineExpiry b n => exact plain (coolDeadlineExpiry_moves s b n)
  | drainDeadlineExpiry b => exact plain (drainDeadlineExpiry_moves s b)
  | spacingExpiry slot => exact plain (spacingExpiry_moves s slot)
  | pauseExpiry slot => exact plain (pauseExpiry_moves s slot)
  | leaseExpiry place => exact plain ⟨_, rfl, running fun high => start.expireLease high _⟩

end Commands

end Sys2Proof.Machine
end

section
/-! What every step keeps: each invariant over the moves of a command and over the resets that a command may begin with. -/

namespace Sys2Proof.Machine

/-! ### One step -/

/-- A step answers a next state as its command does, or idles. -/
theorem step_eq_next {s t : State} (next : step s = .next t) :
    t = { s with now := s.now + 1 } ∨ ∃ c rest, exec c { s with pending := rest } = .next t := by
  unfold step at next
  split at next
  next => exact .inl (Host.Outcome.next.inj next).symm
  next c rest _ => exact .inr ⟨c, rest, next⟩

theorem exec_next {c : Instr} {s t : State} (next : exec c s = .next t) : ∃ u, s.Begins c u ∧ u.Moves c t := by
  obtain ⟨u, v, begins, is, m⟩ := exec_moves c s
  obtain rfl := Host.Outcome.next.inj (is.symm.trans next)
  exact ⟨u, begins, m⟩

/-- Every step keeps what the resets and the moves of every command keep. -/
theorem step_keeps {P : State → Prop} (idle : ∀ s, P s → P { s with now := s.now + 1 })
    (taken : ∀ s rest, P s → P { s with pending := rest })
    (begins : ∀ {c s u}, s.Begins c u → P s → P u) (moves : ∀ {c s t}, s.Moves c t → P s → P t) {s t : State}
    (sound : P s) (next : step s = .next t) : P t := by
  rcases step_eq_next next with rfl | ⟨c, rest, next⟩
  · exact idle s sound
  · obtain ⟨u, first, m⟩ := exec_next next
    exact moves m (begins first (taken s rest sound))

/-- Settles O1, by the definition of a step. -/
theorem stepCarriesOutTheFrontCommand : Obligations.StepCarriesOutTheFrontCommand := by
  intro c rest s front
  simp only [step, front]

/-- Settles O2: moves leave the queue and RESET# alone, so only the commands of the pin change it. -/
theorem everyCommandAnswersNext : Obligations.EveryCommandAnswersNext := by
  intro c s
  by_cases falls : c = .hardReset
  · subst falls
    exact ⟨_, rfl, rfl, by simp [State.hardReset]⟩
  by_cases rises : ∃ straps, c = .hardResetEnd straps
  · obtain ⟨straps, rfl⟩ := rises
    refine ⟨_, rfl, ?_, ?_⟩ <;> unfold State.endHardReset <;> split <;> simp_all
  · obtain ⟨u, t, begins, next, m⟩ := exec_moves c s
    have kept : u.pending = s.pending ∧ u.resetLow = s.resetLow := by
      cases begins with
      | same | traffic | full => exact ⟨rfl, rfl⟩
      | hardReset => exact absurd rfl falls
      | hardResetEnd straps => exact absurd ⟨straps, rfl⟩ rises
    refine ⟨t, next, m.pending_eq.trans kept.1, ?_⟩
    rw [m.resetLow_eq, kept.2]
    have stays : ∀ straps, c ≠ .hardResetEnd straps := fun straps is => rises ⟨straps, is⟩
    simp [falls, stays]

/-! ### The Route Table -/

theorem State.Moves.routesSound {c : Instr} {s t : State} (m : s.Moves c t) (sound : s.RoutesSound) :
    t.RoutesSound := by
  induction m with
  | start => exact sound
  | routes _ _ _ keeps _ ih => exact keeps ih
  | _ => assumption

/-- A table whose entries are all EMPTY is sound. -/
theorem State.routesSound_of_empty {s : State} (empty : ∀ i, (s.route i).live = none) : s.RoutesSound :=
  ⟨⟨fun i _ r at_i => by simp [empty] at at_i, fun i _ r at_i => by simp [empty] at at_i,
    fun i r at_i => by simp [empty] at at_i⟩, fun i r at_i => by simp [empty] at at_i, fun _ => empty⟩

theorem State.Begins.routesSound {c : Instr} {s u : State} (begins : s.Begins c u) (sound : s.RoutesSound) :
    u.RoutesSound := by
  cases begins with
  | same | traffic => exact sound
  | hardReset | full =>
      exact State.routesSound_of_empty fun i => by simp [State.route, State.hardReset, State.afterFull, State.reset]
  | hardResetEnd straps =>
    unfold State.endHardReset
    split
    next low => exact State.routesSound_of_empty (sound.2.2 low)
    next => exact sound

/-- Settles O48. -/
theorem stepKeepsTheRoutesSound : Obligations.StepKeepsTheRoutesSound :=
  fun _ _ sound next => step_keeps (P := State.RoutesSound) (fun _ => id) (fun _ _ => id) State.Begins.routesSound
    State.Moves.routesSound sound next

/-! ### The trunk -/

theorem State.Moves.trunkFit {c : Instr} {s t : State} (m : s.Moves c t) (fit : s.TrunkFit) : t.TrunkFit := by
  induction m with
  | start => exact fit
  | trunk _ _ _ _ _ keeps _ ih => exact keeps ih
  | ending f _ _ _ built response ih => exact ih.join built nofun fun _ => response
  | _ => assumption

theorem State.Begins.trunkFit {c : Instr} {s u : State} (begins : s.Begins c u) (fit : s.TrunkFit) : u.TrunkFit := by
  cases begins with
  | same => exact fit
  | traffic run => exact fit.discard run rfl rfl rfl rfl
  | full run => exact fit.discard run rfl rfl rfl rfl
  | hardReset => exact ⟨⟨Nat.zero_le 8, Nat.zero_le 4, fun _ => rfl, nofun, fun _ => rfl, nofun⟩, nofun⟩
  | hardResetEnd straps =>
    unfold State.endHardReset
    split <;> exact fit

/-- Settles O49. -/
theorem stepKeepsTheTrunkSound : Obligations.StepKeepsTheTrunkSound :=
  fun _ _ sound built next => step_keeps (P := State.TrunkFit) (fun _ => id) (fun _ _ => id) State.Begins.trunkFit
    State.Moves.trunkFit ⟨sound, built⟩ next

/-! ### The budget -/

theorem countWhere_eq_sum {n : Nat} (p : Fin n → Bool) : countWhere p = ∑ i, (p i).toNat := by
  rw [Fin.sum_univ_def, countWhere]
  generalize List.finRange n = places
  induction places with
  | nil => rfl
  | cons i places ih =>
    rw [List.countP_cons, List.map_cons, List.sum_cons, ih, Nat.add_comm]
    cases p i <;> rfl

/-- Two tests that differ at one index count alike but for it. -/
theorem countWhere_of_eq_off {n : Nat} {p q : Fin n → Bool} {i : Fin n} (off : ∀ j, j ≠ i → p j = q j) :
    countWhere p + (q i).toNat = countWhere q + (p i).toNat := by
  rw [countWhere_eq_sum, countWhere_eq_sum, ← Finset.add_sum_erase _ _ (Finset.mem_univ i),
    ← Finset.add_sum_erase _ (fun j => (q j).toNat) (Finset.mem_univ i)]
  have rest : ∑ j ∈ Finset.univ.erase i, (p j).toNat = ∑ j ∈ Finset.univ.erase i, (q j).toNat :=
    Finset.sum_congr rfl fun j mem => by rw [off j (Finset.ne_of_mem_erase mem)]
  omega

theorem State.recordIs_setRecord_self (s : State) (slot : Fin 32) (r : Option Record) (p : Record → Bool) :
    (s.setRecord slot r).recordIs p slot = r.any p := by
  rw [State.recordIs_eq_any, State.record_setRecord_self]

theorem State.recordIs_setRecord_of_ne {s : State} {slot i : Fin 32} (other : i ≠ slot) (r : Option Record)
    (p : Record → Bool) : (s.setRecord slot r).recordIs p i = s.recordIs p i := by
  rw [State.recordIs_eq_any, State.recordIs_eq_any, State.record_setRecord, if_neg other.symm]

/-- What a test counts of the records before and after one of them is replaced. -/
theorem State.countWhere_setRecord (s : State) (slot : Fin 32) (r : Option Record) (p : Record → Bool) :
    countWhere ((s.setRecord slot r).recordIs p) + ((s.record slot).any p).toNat =
      countWhere (s.recordIs p) + (r.any p).toNat := by
  have off := countWhere_of_eq_off (p := (s.setRecord slot r).recordIs p) (q := s.recordIs p) (i := slot)
    fun j other => State.recordIs_setRecord_of_ne other r p
  rwa [State.recordIs_setRecord_self, State.recordIs_eq_any s] at off

theorem State.liveCount_setRecord (s : State) (slot : Fin 32) (r : Option Record) :
    (s.setRecord slot r).liveCount + (s.record slot).isSome.toNat = s.liveCount + r.isSome.toNat := by
  have counted := s.countWhere_setRecord slot r fun _ => true
  cases live : s.record slot <;> cases r <;> simpa [live, State.liveCount] using counted

/-- The trunk tags stay different where a slot keeps its tag, is freed, or takes a tag that no other holds. -/
theorem distinct_setRecord {s : State} {slot : Fin 32} {r : Option Record}
    (distinct : ∀ i j : Fin 32, ∀ r ∈ s.record i, ∀ q ∈ s.record j, r.trunkTag = q.trunkTag → i = j)
    (apart : ∀ q ∈ r, ∀ i p, i ≠ slot → s.record i = some p → p.trunkTag ≠ q.trunkTag) :
    ∀ i j : Fin 32, ∀ p ∈ (s.setRecord slot r).record i, ∀ q ∈ (s.setRecord slot r).record j,
      p.trunkTag = q.trunkTag → i = j := by
  intro i j p at_i q at_j same
  rw [State.record_setRecord] at at_i at_j
  split at at_i <;> split at at_j
  next here here' => exact here.symm.trans here'
  next here away => subst here; exact absurd same.symm (apart p at_i j q (Ne.symm away) at_j)
  next away here => subst here; exact absurd same (apart q at_j i p (Ne.symm away) at_i)
  next => exact distinct i j p at_i q at_j same

theorem State.Moves.budgetSound {c : Instr} {s t : State} (m : s.Moves c t) (sound : s.BudgetSound) :
    t.BudgetSound := by
  induction m with
  | start => exact sound
  | @trunk t tx toq inq agent m fit places ih =>
    obtain ⟨budget, distinct⟩ := ih
    exact ⟨(Nat.add_le_add_left places t.liveCount).trans budget, distinct⟩
  | @update t slot r q m live reach same sound ih =>
    obtain ⟨budget, distinct⟩ := ih
    have counted := t.liveCount_setRecord slot (some q)
    rw [live] at counted
    refine ⟨?_, distinct_setRecord distinct fun p held i l other at_i => ?_⟩
    · unfold State.budgetInUse at budget ⊢
      simp only [State.setRecord_toq, Option.isSome_some] at counted ⊢
      omega
    · obtain rfl := Option.some.inj held
      rw [same.trunkTag]
      exact fun equal => other (distinct i slot l at_i r live equal)
  | @ending t slot r f m live reach built response ih =>
    obtain ⟨budget, distinct⟩ := ih
    have counted := (t.join .reserved f).liveCount_setRecord slot none
    rw [show (t.join .reserved f).record slot = some r from live] at counted
    refine ⟨?_, distinct_setRecord distinct nofun⟩
    unfold State.budgetInUse at budget ⊢
    rw [State.setRecord_toq, State.join_toq, framesIn_append, if_pos rfl]
    rw [show (t.join .reserved f).liveCount = t.liveCount from rfl] at counted
    simp only [Option.isSome_some, Option.isSome_none, Bool.toNat_true, Bool.toNat_false] at counted
    omega
  | @create t slot r m records free reach new budget sound ih =>
    obtain ⟨-, distinct⟩ := ih
    have counted := t.liveCount_setRecord slot (some r)
    rw [free] at counted
    refine ⟨?_, distinct_setRecord distinct fun p held i l _ at_i => ?_⟩
    · unfold State.budgetInUse at budget ⊢
      simp only [State.setRecord_toq, Option.isSome_some, Option.isSome_none, Bool.toNat_true, Bool.toNat_false]
        at counted ⊢
      omega
    · exact Option.some.inj held ▸ new i l at_i
  | _ => assumption

/-- With no live record the budget is what waits in the queue. -/
theorem State.budgetSound_of_none {s : State} (none_live : ∀ i, s.record i = none)
    (waiting : framesIn .reserved s.toq ≤ 32) : s.BudgetSound := by
  refine ⟨?_, fun i _ r at_i => by simp [none_live] at at_i⟩
  have none_is : s.recordIs (fun _ => true) = fun _ => false := by
    funext i
    simp only [State.recordIs, none_live]
  rwa [State.budgetInUse, State.liveCount, none_is, countWhere_false, Nat.zero_add]

theorem State.Begins.budgetSound {c : Instr} {s u : State} (begins : s.Begins c u) (sound : s.BudgetSound) :
    u.BudgetSound := by
  have kept : framesIn .reserved s.inTransmission ≤ 32 :=
    (s.inTransmission_sublist.countP_le).trans ((Nat.le_add_left _ _).trans sound.1)
  cases begins with
  | same => exact sound
  | traffic | full => exact State.budgetSound_of_none (fun i => look_replicate none i) kept
  | hardReset => exact State.budgetSound_of_none (fun i => look_replicate none i) (Nat.zero_le _)
  | hardResetEnd straps =>
    unfold State.endHardReset
    split <;> exact sound

/-- Settles O50. -/
theorem stepKeepsTheBudget : Obligations.StepKeepsTheBudget :=
  fun _ _ sound next => step_keeps (P := State.BudgetSound) (fun _ => id) (fun _ _ => id) State.Begins.budgetSound
    State.Moves.budgetSound sound next

/-! ### The Recipe Store and the records -/

/-- A recipe that no live record executes may be replaced under the records. -/
theorem stepsOf_setRecipe_of_unused {s : State} {k : Fin 32} {i : Fin 32} {r : Record}
    (unused : s.recipeInUse k = false) (live : s.record i = some r) (u : State) (v : Option Recipe) :
    (u.setRecipe k v).stepsOf r = u.stepsOf r := by
  have other : r.snapshot.recipe ≠ some k := by
    intro named
    have used := ((inUseMeansALiveRecordOrACoolingTag s).2 k).2 ⟨i, r, live, named⟩
    simp [unused] at used
  unfold State.stepsOf State.recipeOf
  cases choice : r.snapshot.recipe with
  | none => rfl
  | some l =>
    have apart : k ≠ l := fun same => other (by rw [choice, same])
    simp only [State.recipe_setRecipe, if_neg apart]

theorem State.RecordsSound.setRecord {s : State} (sounds : s.RecordsSound) {slot : Fin 32} {r : Option Record}
    (sound : ∀ q ∈ r, s.RecordSound q) : (s.setRecord slot r).RecordsSound := by
  refine ⟨sounds.1, fun i q at_i => ?_⟩
  rw [State.record_setRecord] at at_i
  split at at_i
  next => exact sound q at_i
  next => exact sounds.2 i q at_i

theorem State.Moves.recordsSound {c : Instr} {s t : State} (m : s.Moves c t) (sounds : s.RecordsSound) :
    t.RecordsSound := by
  induction m with
  | start => exact sounds
  | @recipe t k v m request unused records sound ih =>
    obtain ⟨⟨recipes, blocks⟩, each⟩ := ih
    refine ⟨⟨fun l r at_l => ?_, blocks⟩, fun i r live => ?_⟩
    · rw [State.recipe_setRecipe] at at_l
      split at at_l
      next => exact sound r at_l
      next => exact recipes l r at_l
    · have live_s : s.record i = some r := by rw [State.record, ← records]; exact live
      have steps := stepsOf_setRecipe_of_unused unused live_s t v
      rw [State.recordSound_iff, steps]
      exact State.recordSound_iff.1 (each i r live)
  | @block t k bytes m short ih =>
    obtain ⟨⟨recipes, blocks⟩, each⟩ := ih
    refine ⟨⟨recipes, fun l => ?_⟩, each⟩
    rw [State.block_setBlock]
    split
    next => exact short
    next => exact blocks l
  | update q m live reach same sound ih => exact ih.setRecord fun p held => Option.some.inj held ▸ sound ih
  | create r m records free reach new budget sound ih =>
    exact ih.setRecord fun p held => Option.some.inj held ▸ sound ih
  | ending f m live reach built response ih => exact State.RecordsSound.setRecord ih nofun
  | _ => assumption

theorem State.Begins.recordsSound {c : Instr} {s u : State} (begins : s.Begins c u) (sounds : s.RecordsSound) :
    u.RecordsSound := by
  cases begins with
  | same => exact sounds
  | traffic => exact ⟨sounds.1, fun i r live => by simp [State.record, State.afterTraffic] at live⟩
  | full | hardReset =>
    refine ⟨⟨fun k r loaded => ?_, fun k => ?_⟩, fun i r live => ?_⟩ <;>
      simp_all [State.record, State.recipe, State.block, State.afterFull, State.hardReset, State.reset]
  | hardResetEnd straps =>
    unfold State.endHardReset
    split <;> exact sounds

/-- Settles O51. -/
theorem stepKeepsTheRecordsSound : Obligations.StepKeepsTheRecordsSound :=
  fun _ _ sounds next => step_keeps (P := State.RecordsSound) (fun _ => id) (fun _ _ => id) State.Begins.recordsSound
    State.Moves.recordsSound sounds next

/-! ### The settings -/

theorem State.Moves.settingsSound {c : Instr} {s t : State} (m : s.Moves c t) (sound : s.SettingsSound) :
    t.SettingsSound := by
  induction m with
  | start => exact sound
  | notices _ _ _ _ _ _ m high fit follows range ih =>
    obtain ⟨ports, profiles, lease⟩ := ih
    exact ⟨ports, profiles, range lease⟩
  | @profile t p v m request unused fits ih =>
    obtain ⟨ports, profiles, lease⟩ := ih
    refine ⟨ports, fun q => ?_, lease⟩
    rw [State.profile_setProfile]
    split
    next => exact fits
    next => exact profiles q
  | @port t b p m reach range ih =>
    obtain ⟨ports, profiles, lease⟩ := ih
    refine ⟨fun d => ?_, profiles, lease⟩
    rw [State.branch_setBranch]
    split
    next => exact range (ports b)
    next => exact ports d
  | _ => assumption

theorem defaultProfile_sound (p : Fin 4) : (look defaultProfiles p).Sound := by
  revert p
  decide

/-- The settings of a port after a hard reset are in range, whatever it is sending. -/
theorem resetPort_settingsSound (tx : Option BranchRequest) :
    ({ resetPort with tx := tx } : BranchPort).SettingsSound := by
  have sound : resetPort.SettingsSound := by decide
  exact sound

theorem State.Begins.settingsSound {c : Instr} {s u : State} (begins : s.Begins c u) (sound : s.SettingsSound) :
    u.SettingsSound := by
  have lease : 1 ≤ State.reset.lease ∧ State.reset.lease ≤ 60 := by decide
  cases begins with
  | same => exact sound
  | traffic =>
    obtain ⟨ports, profiles, lease⟩ := sound
    refine ⟨fun b => ?_, profiles, lease⟩
    have port : s.afterTraffic.branch b = (s.branch b).afterTraffic s.now := look_map _ _ _
    obtain ⟨w1, w4, c1, c255, f1, f15, count, below⟩ := ports b
    rw [port]
    refine ⟨w1, w4, c1, c255, f1, f15, count, fun works => below ?_⟩
    revert works
    cases at_state : (s.branch b).state <;>
      simp [BranchPort.afterTraffic, at_state, BranchState.afterTraffic, BranchState.working]
  | full =>
    refine ⟨fun b => ?_, defaultProfile_sound, lease⟩
    have port : s.afterFull.branch b = (s.branch b).afterFull := look_map _ _ _
    rw [port]
    exact resetPort_settingsSound _
  | hardReset =>
    refine ⟨fun b => ?_, defaultProfile_sound, lease⟩
    rw [s.hardReset_branch]
    exact resetPort_settingsSound none
  | hardResetEnd straps =>
    unfold State.endHardReset
    split <;> exact sound

/-- Settles O53. -/
theorem stepKeepsTheSettingsInRange : Obligations.StepKeepsTheSettingsInRange :=
  fun _ _ sound next => step_keeps (P := State.SettingsSound) (fun _ => id) (fun _ _ => id) State.Begins.settingsSound
    State.Moves.settingsSound sound next

/-! ### Rules of the whole machine -/

theorem State.Moves.sameRequest {c : Instr} {s t : State} (m : s.Moves c t) {i : Fin 32} {r q : Record}
    (before : s.record i = some r) (after : t.record i = some q) : r.SameRequest q := by
  induction m generalizing q with
  | start =>
    obtain rfl := Option.some.inj (before.symm.trans after)
    exact .refl r
  | @update t slot p p' m live reach same sound ih =>
    rw [State.record_setRecord] at after
    split at after
    next here =>
      obtain rfl := Option.some.inj after
      exact (ih (here ▸ live)).trans same
    next => exact ih after
  | @ending t slot p f m live reach built response ih =>
    rw [State.record_setRecord] at after
    split at after
    next => cases after
    next => exact ih after
  | @create t slot p m records free reach new budget sound ih =>
    rw [State.record_setRecord] at after
    split at after
    next here =>
      rw [State.record, records] at free
      cases (here ▸ free).symm.trans before
    next => exact ih after
  | _ => apply_assumption; assumption

/-- A command that reaches no branch leaves every port and every record. -/
theorem State.Moves.unreached {c : Instr} {s t : State} (m : s.Moves c t) (none_reached : ∀ b, ¬s.Reaches c b) :
    t.records = s.records ∧ t.branches = s.branches := by
  induction m with
  | start => exact ⟨rfl, rfl⟩
  | port b _ _ reach => exact absurd reach (none_reached b)
  | update _ _ _ reach => exact absurd reach (none_reached _)
  | ending _ _ _ reach => exact absurd reach (none_reached _)
  | create _ _ _ _ reach => exact absurd reach (none_reached _)
  | _ => assumption

/-- Settles O55: a record keeps its request through the moves of a command, and no reset leaves a record. -/
theorem aLiveRecordKeepsItsRequest : Obligations.ALiveRecordKeepsItsRequest := by
  intro c s t i r q next before after
  obtain ⟨u, begins, m⟩ := exec_next next
  have same : r.SameRequest q := by
    cases begins with
    | same => exact m.sameRequest before after
    | hardResetEnd straps =>
      refine m.sameRequest ?_ after
      unfold State.endHardReset
      split <;> exact before
    | hardReset | traffic | full =>
      have kept := (m.unreached nofun).1
      rw [State.record, kept] at after
      exact absurd ((look_replicate none i).symm.trans after) nofun
  exact ⟨same.trunkTag, same.globalAddress, same.urgent, same.op, same.snapshot, same.payload⟩

theorem State.Moves.profile_eq {c : Instr} {s t : State} (m : s.Moves c t) {p : Fin 4}
    (kept : c ≠ .profileWrite ∨ s.profileInUse p = true) : t.profile p = s.profile p := by
  induction m with
  | start => rfl
  | @profile t q v m request unused sound ih =>
    rw [State.profile_setProfile, if_neg, ih]
    rintro rfl
    exact kept.elim (fun other => other request) fun used => nomatch unused.symm.trans used
  | _ => assumption

theorem State.Moves.recipe_eq {c : Instr} {s t : State} (m : s.Moves c t) {k : Fin 32}
    (kept : (c ≠ .recipeWrite ∧ c ≠ .recipeClear) ∨ s.recipeInUse k = true) : t.recipe k = s.recipe k := by
  induction m with
  | start => rfl
  | @recipe t l v m request unused records sound ih =>
    rw [State.recipe_setRecipe, if_neg, ih]
    rintro rfl
    exact kept.elim (fun other => request.elim other.1 other.2) fun used => nomatch unused.symm.trans used
  | _ => assumption

/-- Settles O56: only a write to a profile and a write to or clearing of a recipe change one, and each tests its use. -/
theorem whatIsInUseDoesNotChange : Obligations.WhatIsInUseDoesNotChange := by
  intro c s t next not_hard not_full
  obtain ⟨u, begins, m⟩ := exec_next next
  cases begins with
  | same => exact ⟨fun p used => m.profile_eq (.inr used), fun k used => m.recipe_eq (.inr used)⟩
  | traffic => exact ⟨fun p _ => m.profile_eq (.inl nofun), fun k _ => m.recipe_eq (.inl ⟨nofun, nofun⟩)⟩
  | hardReset => exact absurd rfl not_hard
  | full => exact absurd rfl not_full
  | hardResetEnd straps =>
    refine ⟨fun p _ => (m.profile_eq (.inl nofun)).trans ?_, fun k _ => (m.recipe_eq (.inl ⟨nofun, nofun⟩)).trans ?_⟩ <;>
      unfold State.endHardReset <;> split <;> rfl

theorem State.Moves.generation_eq {c : Instr} {s t : State} (m : s.Moves c t) (not_write : c ≠ .routeWrite)
    (not_delete : c ≠ .routeDelete) (i : Fin 128) : (t.route i).generation = (s.route i).generation := by
  induction m with
  | start => rfl
  | routes _ _ _ _ generations ih => exact (generations not_write not_delete i).trans ih
  | _ => assumption

@[simp] theorem State.answer_route (s : State) (result : Result) (payload : List Byte) (i : Fin 128) :
    (s.answer result payload).route i = s.route i := by
  simp [State.route]

/-- A ROUTE_WRITE of a fitting length is refused, or replaces the entry at its index (R32, R33). -/
theorem routeWrite_cases (s : State) (index : Byte) (record : List Byte) :
    (∃ result ∈ ([.badRequest, .badValue, .conflict] : List Result),
      routeWrite (index :: record) s = s.answer result []) ∨
    ∃ i config, index = indexByte i ∧ routeWrite (index :: record) s =
      (s.setRoute i { generation := (s.route i).generation + 1
                      live := some { config, quarantined := false, failures := 0 } }).answer .done
        [(s.route i).generation + 1] := by
  unfold routeWrite
  dsimp only
  split
  next i config at_i _ =>
    split
    · exact .inl ⟨.conflict, by simp, rfl⟩
    · exact .inr ⟨i, config, (indexByte_of_toNat (index?_eq_some.1 at_i)).symm, rfl⟩
  next => exact .inl ⟨.badValue, by simp, rfl⟩

/-- A ROUTE_DELETE is refused, or makes the entry at its index EMPTY (R35). -/
theorem routeDelete_cases (s : State) (i : Fin 128) :
    routeDelete i s = s.answer .notFound [] ∨ routeDelete i s =
      (s.setRoute i { generation := (s.route i).generation + 1, live := none }).answer .done
        [(s.route i).generation + 1] := by
  cases live : (s.route i).live with
  | none => exact .inl (routeDelete_of_empty live)
  | some r => exact .inr (routeDelete_of_live live)

/-- The generation of an entry where the entry at some index was replaced with its generation one on. -/
theorem generation_or_eq {s t : State} {i j : Fin 128} {live : Option LiveRoute} {result : Result} {payload : List Byte}
    (is : t = (s.setRoute j { generation := (s.route j).generation + 1, live }).answer result payload) :
    (t.route i).generation = (s.route i).generation ∨ j = i := by
  by_cases same : j = i
  · exact .inr same
  · left
    rw [is, State.answer_route, State.route_setRoute, if_neg same]

/-- What a management command can do where the request in execution has its code. -/
theorem State.carryOut_executes (s : State) (code : Byte) (act : List Byte → State → State) :
    s.carryOut code act = s ∨ s.carryOut code act = s.answer .badRequest [] ∨
      ∃ payload, s.Executes code payload ∧ lengthAccepted code payload = true ∧ s.carryOut code act = act payload s := by
  rcases s.carryOut_cases code act with same | ⟨⟨tag, _, payload⟩, run, rfl, high, ⟨-, misfit⟩ | ⟨fits, acted⟩⟩
  · exact .inl same
  · exact .inr (.inl misfit)
  · exact .inr (.inr ⟨payload, ⟨high, tag, run⟩, fits, acted⟩)

theorem routeWrite_generation {s t : State} (i : Fin 128) (is : s.carryOut 0x10 routeWrite = t) :
    (t.route i).generation = (s.route i).generation ∨
      (∃ record, s.Executes 0x10 (indexByte i :: record)) ∧ ∃ live,
        t = (s.setRoute i { generation := (s.route i).generation + 1, live }).answer .done
          [(s.route i).generation + 1] := by
  rcases s.carryOut_executes 0x10 routeWrite with same | misfit | ⟨payload, run, fits, acted⟩
  · exact .inl (by rw [← is, same])
  · exact .inl (by rw [← is, misfit, State.answer_route])
  · obtain ⟨index, record, rfl⟩ : ∃ index record, payload = index :: record := by
      cases payload with
      | nil => cases fits
      | cons index record => exact ⟨index, record, rfl⟩
    rw [acted] at is
    rcases routeWrite_cases s index record with ⟨result, -, refused⟩ | ⟨j, config, rfl, written⟩
    · exact .inl (by rw [← is, refused, State.answer_route])
    · have is := is.symm.trans written
      rcases generation_or_eq (i := i) is with same | rfl
      · exact .inl same
      · exact .inr ⟨⟨record, run⟩, _, is⟩

theorem routeDelete_generation {s t : State} (i : Fin 128) (is : s.carryOut 0x12 (onIndex 128 routeDelete) = t) :
    (t.route i).generation = (s.route i).generation ∨
      s.Executes 0x12 [indexByte i] ∧ ∃ live,
        t = (s.setRoute i { generation := (s.route i).generation + 1, live }).answer .done
          [(s.route i).generation + 1] := by
  rcases s.carryOut_executes 0x12 (onIndex 128 routeDelete) with same | misfit | ⟨payload, run, fits, acted⟩
  · exact .inl (by rw [← is, same])
  · exact .inl (by rw [← is, misfit, State.answer_route])
  · obtain ⟨index, rfl⟩ : ∃ index, payload = [index] := List.length_eq_one_iff.1 (by simpa [lengthAccepted] using fits)
    rw [acted] at is
    by_cases inside : index.toNat < 128
    · rw [onIndex_of_lt (i := ⟨index.toNat, inside⟩) rfl] at is
      rcases routeDelete_cases s ⟨index.toNat, inside⟩ with refused | deleted
      · exact .inl (by rw [← is, refused, State.answer_route])
      · have is := is.symm.trans deleted
        rcases generation_or_eq (i := i) is with same | rfl
        · exact .inl same
        · have named : indexByte (⟨index.toNat, inside⟩ : Fin 128) = index := indexByte_of_toNat rfl
          exact .inr ⟨by rwa [named], _, is⟩
    · rw [onIndex_of_le (Nat.le_of_not_lt inside)] at is
      exact .inl (by rw [← is, State.answer_route])

/-- Settles O57: the moves of no other command touch a generation, and the resets set it to 0. -/
theorem generationsCountWritesAndDeletes : Obligations.GenerationsCountWritesAndDeletes := by
  constructor
  · intro c s t i next moved
    by_cases write : c = .routeWrite
    · subst write
      rcases routeWrite_generation i (Host.Outcome.next.inj next) with same | ⟨run, written⟩
      · exact .inl same
      · exact .inr (.inl ⟨.inl ⟨rfl, run⟩, written⟩)
    by_cases delete : c = .routeDelete
    · subst delete
      rcases routeDelete_generation i (Host.Outcome.next.inj next) with same | ⟨run, deleted⟩
      · exact .inl same
      · exact .inr (.inl ⟨.inr ⟨rfl, run⟩, deleted⟩)
    obtain ⟨u, begins, m⟩ := exec_next next
    have kept := m.generation_eq write delete i
    cases begins with
    | same | traffic => exact .inl kept
    | hardReset | full =>
      refine .inr (.inr ⟨by simp, kept.trans ?_⟩)
      simp [State.route, State.hardReset, State.afterFull, State.reset]
    | hardResetEnd straps =>
      refine .inl (kept.trans ?_)
      unfold State.endHardReset
      split <;> rfl
  · intro s i moved
    refine ⟨fun record run => ?write, fun run => ?delete⟩
    case write =>
      rw [exec_routeWrite]
      cases fits : lengthAccepted 0x10 (indexByte i :: record) with
      | false => exact .inl ⟨.badRequest, by simp, congrArg _ (State.carryOut_of_misfit run fits _)⟩
      | true =>
        rw [State.carryOut_of_executes run fits]
        rcases routeWrite_cases s (indexByte i) record with ⟨result, listed, refused⟩ | ⟨j, config, same, written⟩
        · exact .inl ⟨result, listed, congrArg _ refused⟩
        · have at_j : i = j := Fin.ext (by rw [← indexByte_toNat (by decide) i, same, indexByte_toNat (by decide) j])
          subst at_j
          exact .inr ⟨config, congrArg _ written⟩
    case delete =>
      rw [exec_routeDelete, State.carryOut_of_executes run rfl, onIndex_of_lt (indexByte_toNat (by decide) i)]
      exact (routeDelete_cases s i).imp (congrArg _) (congrArg _)

/-- A branch that a command does not reach keeps its port and its records. -/
theorem State.Moves.elsewhere {c : Instr} {s t : State} (m : s.Moves c t) {d : Fin 4} (off : ¬s.Reaches c d) :
    t.branch d = s.branch d ∧ ∀ i r, s.record i = some r → r.snapshot.branch = d → t.record i = some r := by
  induction m with
  | start => exact ⟨rfl, fun _ _ live _ => live⟩
  | @port t b p m reach range ih =>
    have other : d ≠ b := fun same => off (same ▸ reach)
    exact ⟨(State.branch_setBranch_of_ne other t p).trans ih.1, ih.2⟩
  | @update t slot p q m live reach same sound ih =>
    refine ⟨ih.1, fun i r live_i on_d => ?_⟩
    have still := ih.2 i r live_i on_d
    rw [State.record_setRecord, if_neg, still]
    rintro rfl
    cases live.symm.trans still
    exact off (on_d ▸ reach)
  | @ending t slot p f m live reach built response ih =>
    refine ⟨ih.1, fun i r live_i on_d => ?_⟩
    have still := ih.2 i r live_i on_d
    refine (State.record_setRecord _ slot i none).trans ((if_neg ?_).trans still)
    rintro rfl
    cases live.symm.trans still
    exact off (on_d ▸ reach)
  | @create t slot p m records free reach new budget sound ih =>
    refine ⟨ih.1, fun i r live_i on_d => ?_⟩
    have still := ih.2 i r live_i on_d
    rw [State.record_setRecord, if_neg, still]
    rintro rfl
    cases free.symm.trans still
  | _ => assumption

/-- Settles O59: each of these commands reaches its own branch alone. -/
theorem branchesAreIndependent : Obligations.BranchesAreIndependent := by
  intro c s t b d next other command
  obtain ⟨u, begins, m⟩ := exec_next next
  rcases command with ⟨content, rfl⟩ | ⟨localAddress, tag, status, payload, rfl⟩ | ⟨localAddress, payload, rfl⟩ | rfl |
    ⟨n, rfl⟩ | ⟨n, rfl⟩ | rfl | ⟨rfl, queues⟩
  case inr.inr.inr.inr.inr.inr.inr =>
    cases begins
    exact m.elsewhere fun reach => other (reach queues)
  all_goals
    cases begins
    exact m.elsewhere other

/-! ### The notices -/

theorem State.Moves.noticesSound {c : Instr} {s t : State} (m : s.Moves c t)
    (sound : s.NoticesSound ∧ s.AttnSound) : t.NoticesSound ∧ t.AttnSound := by
  induction m with
  | start => exact sound
  | @notices t ns threshold lease nextClaim lost attn m high fit follows range ih =>
    obtain ⟨notices, attention, -⟩ := ih
    refine ⟨State.noticesSound_iff.2 (fit (State.noticesSound_iff.1 notices)), follows attention, fun low => ?_⟩
    exact absurd ((m.resetLow_eq.trans high).symm.trans low) nofun
  | _ => assumption

theorem State.Begins.noticesSound {c : Instr} {s u : State} (begins : s.Begins c u)
    (sound : s.NoticesSound ∧ s.AttnSound) : u.NoticesSound ∧ u.AttnSound := by
  cases begins with
  | same | traffic => exact sound
  | full | hardReset => exact ⟨⟨Nat.zero_le _, nofun, List.Pairwise.nil⟩, rfl, fun _ => ⟨rfl, rfl⟩⟩
  | hardResetEnd straps =>
    obtain ⟨notices, attention, low⟩ := sound
    unfold State.endHardReset
    split
    next => exact ⟨notices, attention, nofun⟩
    next => exact ⟨notices, attention, low⟩

/-- Settles O54. -/
theorem stepKeepsTheNoticesSound : Obligations.StepKeepsTheNoticesSound :=
  fun _ _ notices attention next => step_keeps (P := fun s => s.NoticesSound ∧ s.AttnSound) (fun _ => id)
    (fun _ _ => id) State.Begins.noticesSound State.Moves.noticesSound ⟨notices, attention⟩ next

end Sys2Proof.Machine
end

section
/-! The Trunk Port and the frame of the management commands (chapters 1, 9 and 10): what the commands do where their event
cannot occur, trunk content, the queue and its transmitter, the replies, and the own address. -/

namespace Sys2Proof.Machine

/-! ### Commands whose event cannot occur -/

/-- Every command but the two of RESET# is a meaning under the reset gate or a request on the Agent's frame. -/
theorem exec_gated (c : Instr) :
    c = .hardReset ∨ (∃ straps, c = .hardResetEnd straps) ∨ (∃ act, ∀ s, exec c s = .next (s.running act)) ∨
      ∃ code act, ∀ s, exec c s = .next (s.carryOut code act) := by
  cases c with
  | hardReset => exact .inl rfl
  | hardResetEnd straps => exact .inr (.inl ⟨straps, rfl⟩)
  | trunkFrame | request | manage | hold | release | trunkTransmissionEnd | pendingRequestResolved | takeRequest
  | branchFrame | branchResponse | alert | schedulerIssue | branchTransmissionEnd | exchangeTimerExpiry
  | spacingExpiry | pauseExpiry | coolDeadlineExpiry | drainDeadlineExpiry | leaseExpiry | unknownManagementCode =>
    exact .inr (.inr (.inl ⟨_, fun _ => rfl⟩))
  | statusRead | counterRead | setOwnAddress | softResetTraffic | softResetFull | softResetBadValue | routeWrite
  | routeRead | routeDelete | routeReinstate | profileWrite | profileRead | recipeWrite | recipeRead | recipeClear
  | constWrite | constRead | branchConfig | branchEnable | branchDrain | branchDisable | transactionAbort | pendingRead
  | noticeClaim | noticeRetire | noticeSettings =>
    exact .inr (.inr (.inr ⟨_, _, fun _ => rfl⟩))

/-- The management commands carry out the request that has their code (R160). -/
theorem exec_requestCommand {c : Instr} {code : Byte} (listed : (c, code) ∈ requestCommands) :
    ∃ act, ∀ s, exec c s = .next (s.carryOut code act) := by
  simp only [requestCommands, List.mem_cons, Prod.mk.injEq, List.not_mem_nil, or_false] at listed
  rcases listed with h | h | h | h | h | h | h | h | h | h | h | h | h | h | h | h | h | h | h | h | h | h | h | h | h | h
  all_goals
    obtain ⟨rfl, rfl⟩ := h
    exact ⟨_, fun _ => rfl⟩

section Idle

variable {s : State}

theorem State.carryOut_of_low (low : s.resetLow = true) (code : Byte) (act : List Byte → State → State) :
    s.carryOut code act = s := by
  simp [State.carryOut, low]

theorem State.carryOut_of_other {code : Byte} (other : ∀ q, s.agent = .executing q → q.code ≠ code)
    (act : List Byte → State → State) : s.carryOut code act = s := by
  rcases s.carryOut_cases code act with same | ⟨q, run, is, -⟩
  · exact same
  · exact absurd is (other q run)

theorem exec_of_low (low : s.resetLow = true) {c : Instr} (falls : c ≠ .hardReset)
    (rises : ∀ straps, c ≠ .hardResetEnd straps) : exec c s = .next s := by
  rcases exec_gated c with is | ⟨straps, is⟩ | ⟨act, means⟩ | ⟨code, act, means⟩
  · exact absurd is falls
  · exact absurd is (rises straps)
  · rw [means, State.running_of_low low]
  · rw [means, State.carryOut_of_low low]

variable (high : s.resetLow = false)
include high

theorem exec_branchTransmissionEnd_of_none {b : Fin 4} (idle : (s.branch b).tx = none) :
    exec (.branchTransmissionEnd b) s = .next s := by
  change execBranchTransmissionEnd b s = _
  simp only [execBranchTransmissionEnd, State.running_of_high high, idle]

theorem exec_spacingExpiry_of_not {slot : Fin 32} (other : ∀ r d, s.record slot = some r → r.state ≠ .spacing d) :
    exec (.spacingExpiry slot) s = .next s := by
  change execSpacingExpiry slot s = _
  rw [execSpacingExpiry, State.running_of_high high]
  split
  next r live =>
    split
    case h_1 d at_state => exact absurd at_state (other r d live)
    all_goals rfl
  next => rfl

theorem exec_pauseExpiry_of_not {slot : Fin 32} (other : ∀ r d, s.record slot = some r → r.state ≠ .paused d) :
    exec (.pauseExpiry slot) s = .next s := by
  change execPauseExpiry slot s = _
  rw [execPauseExpiry, State.running_of_high high]
  split
  next r live =>
    split
    case h_1 d at_state => exact absurd at_state (other r d live)
    all_goals rfl
  next => rfl

theorem exec_exchangeTimerExpiry_of_not {b : Fin 4} {n : Fin 16}
    (other : ∀ slot r d, s.record slot = some r → r.snapshot.branch = b → r.state ≠ .issued n (some d)) :
    exec (.exchangeTimerExpiry b n) s = .next s := by
  change execExchangeTimerExpiry b n s = _
  rw [execExchangeTimerExpiry, State.running_of_high high]
  split
  next slot found =>
    split
    next r live =>
      obtain ⟨on_b, d, issued⟩ := State.Moves.holderOf_spec found live
      split
      case h_1 m e at_state =>
        obtain ⟨rfl, -⟩ := RecordState.issued.inj (issued.symm.trans at_state)
        exact absurd at_state (other slot r e live on_b)
      all_goals rfl
    next => rfl
  next => rfl

theorem exec_coolDeadlineExpiry_of_not {b : Fin 4} {n : Fin 16} (other : ∀ p a d, (s.branch b).tag n ≠ .cooling p a d) :
    exec (.coolDeadlineExpiry b n) s = .next s := by
  change execCoolDeadlineExpiry b n s = _
  rw [execCoolDeadlineExpiry, State.running_of_high high]
  split
  case h_1 p a d at_tag => exact absurd at_tag (other p a d)
  all_goals rfl

theorem exec_drainDeadlineExpiry_of_not {b : Fin 4} (other : ∀ d, (s.branch b).state ≠ .draining d) :
    exec (.drainDeadlineExpiry b) s = .next s := by
  change execDrainDeadlineExpiry b s = _
  rw [execDrainDeadlineExpiry, State.running_of_high high]
  split
  case h_1 d at_state => exact absurd at_state (other d)
  all_goals rfl

theorem exec_leaseExpiry_of_not {place : Fin 16}
    (other : ∀ n c, s.notices[place.val]? = some n → n.claim ≠ some c) : exec (.leaseExpiry place) s = .next s := by
  change execLeaseExpiry place s = _
  rw [execLeaseExpiry, State.running_of_high high, State.expireLease]
  split
  next => rfl
  next n held =>
    split
    next => rfl
    next c claimed => exact absurd claimed (other n c held)

end Idle

theorem State.endTransmission_of_idle {s : State} (idle : s.tx.inFlight = false) : s.endTransmission = s := by
  simp [State.endTransmission, idle]

theorem State.takeRequest_of_executing {s : State} {q : ManageRequest} (run : s.agent = .executing q) :
    s.takeRequest = s := by
  simp only [State.takeRequest, run]

theorem exec_unknownManagementCode_of_executing {s : State} {q : ManageRequest} (high : s.resetLow = false)
    (run : s.agent = .executing q) :
    exec .unknownManagementCode s =
      .next (if lengthAccepted q.code q.payload then s else s.answer .badRequest []) := by
  change execUnknownManagementCode s = _
  simp only [execUnknownManagementCode, State.running_of_high high, run]

theorem exec_unknownManagementCode_of_fitting {s : State} (high : s.resetLow = false)
    (fits : ∀ q, s.agent = .executing q → lengthAccepted q.code q.payload = true) :
    exec .unknownManagementCode s = .next s := by
  cases at_work : s.agent with
  | executing q => rw [exec_unknownManagementCode_of_executing high at_work, fits q at_work, if_pos rfl]
  | idle | waiting =>
    change execUnknownManagementCode s = _
    simp only [execUnknownManagementCode, State.running_of_high high, at_work]

/-- A SOFT_RESET executes where its command is of its scope; under another command nothing changes (log entry 3). -/
theorem State.carryOut_softReset {s : State} {scope : Byte} (run : s.Executes 0x04 [scope]) (test : Byte → Bool)
    (act : State → State) : s.carryOut 0x04 (softReset test act) = if test scope then act s else s :=
  State.carryOut_of_executes run rfl _

theorem exec_softResetTraffic (s : State) : exec .softResetTraffic s =
    .next (s.carryOut 0x04 (softReset (· == 1) fun s => (s.afterTraffic.answer .done [1]).freshAttention)) := rfl

theorem exec_softResetFull (s : State) : exec .softResetFull s =
    .next (s.carryOut 0x04 (softReset (· == 2) fun s => s.afterFull.answer .done [2])) := rfl

theorem exec_softResetBadValue (s : State) : exec .softResetBadValue s =
    .next (s.carryOut 0x04 (softReset (fun b => b != 1 && b != 2) fun s => s.answer .badValue [])) := rfl

theorem exec_trunkTransmissionEnd (s : State) : exec .trunkTransmissionEnd s = .next (s.running State.endTransmission) :=
  rfl

/-- Settles O4: the gate of RESET#, and for each command the case that it cannot occur in. -/
theorem commandsThatCannotOccurChangeNothing : Obligations.CommandsThatCannotOccurChangeNothing := by
  refine ⟨fun c s low falls rises => exec_of_low low falls rises, fun s high => ?_⟩
  refine ⟨fun straps => ?rises, fun idle => ?trunk, fun q run => ?taken, fun c code listed other => ?code, fun fits => ?unknown,
    fun b idle => ?branch, fun scope run => ?scopes, fun b n other => ?exchange, fun slot other => ?spacing,
    fun slot other => ?pause, fun b n other => ?cool, fun b other => ?drain, fun place other => ?lease⟩
  case rises => exact congrArg _ (if_neg (by simp [high]))
  case trunk => rw [exec_trunkTransmissionEnd, State.running_of_high high, State.endTransmission_of_idle idle]
  case taken => rw [exec_takeRequest, State.running_of_high high, State.takeRequest_of_executing run]
  case code =>
    obtain ⟨act, means⟩ := exec_requestCommand listed
    rw [means, State.carryOut_of_other other]
  case unknown => exact exec_unknownManagementCode_of_fitting high fits
  case branch => exact exec_branchTransmissionEnd_of_none high idle
  case scopes =>
    rw [exec_softResetTraffic, exec_softResetFull, exec_softResetBadValue]
    simp only [State.carryOut_softReset run]
    refine ⟨fun other => congrArg _ (if_neg ?_), fun other => congrArg _ (if_neg ?_), fun named => congrArg _ (if_neg ?_)⟩
    · simpa using other
    · simpa using other
    · rcases named with rfl | rfl <;> decide
  case exchange => exact exec_exchangeTimerExpiry_of_not high other
  case spacing => exact exec_spacingExpiry_of_not high other
  case pause => exact exec_pauseExpiry_of_not high other
  case cool => exact exec_coolDeadlineExpiry_of_not high other
  case drain => exact exec_drainDeadlineExpiry_of_not high other
  case lease => exact exec_leaseExpiry_of_not high other

/-! ### The content of trunk frames -/

theorem exec_trunkFrame_of_high {s : State} (high : s.resetLow = false) (content : List Byte) :
    exec (.trunkFrame content) s = .next (s.receiveTrunk content) :=
  congrArg _ (State.running_of_high high _)

theorem State.receiveGood_of_lt {payload : List Byte} (long : 96 < payload.length) (s : State) (act : State → State) :
    s.receiveGood payload act = s.bumpTrunk .checkErrors :=
  if_neg (Nat.not_le_of_lt long)

theorem State.receiveTrunk_of_bad {s : State} {content : List Byte} (bad : readTrunk content = none) :
    s.receiveTrunk content = s.bumpTrunk .checkErrors := by
  simp only [State.receiveTrunk, bad]

/-- Content that no fields of a good frame give is not read. -/
theorem readTrunk_eq_none {content : List Byte}
    (other : ∀ kind flags address tag code payload, payload.length ≤ 96 →
      content ≠ trunkBody kind flags address tag code payload ++
        [(trunkCheck (trunkBody kind flags address tag code payload)).extractLsb' 8 8,
         (trunkCheck (trunkBody kind flags address tag code payload)).extractLsb' 0 8]) : readTrunk content = none := by
  refine Option.eq_none_iff_forall_ne_some.2 fun f read => ?_
  obtain ⟨fits, check, whole⟩ := readTrunk_eq_some.1 read
  rw [check] at whole
  exact other f.kind f.flags f.address f.tag f.code f.payload fits whole

theorem State.classifyTrunk_of_unknown {s : State} {f : TrunkFrame} (request : f.kind ≠ kindRequest)
    (manage : f.kind ≠ kindManage) (hold : f.kind ≠ kindHold) (release : f.kind ≠ kindRelease) :
    s.classifyTrunk f = s.bumpTrunk .unknownKind := by
  rw [State.classifyTrunk, if_neg request, if_neg manage, if_neg hold, if_neg release]

/-- Settles O5: the content of a good frame is read back, and is classified as the command of its fields is. -/
theorem trunkContentIsBadOrActsAsItsFields : Obligations.TrunkContentIsBadOrActsAsItsFields := by
  refine ⟨⟨fun s content high other => ?_, fun s address flags tag code payload high long => ⟨?_, ?_⟩⟩, ?_⟩
  · rw [exec_trunkFrame_of_high high, State.receiveTrunk_of_bad (readTrunk_eq_none other)]
  · rw [exec_request, State.running_of_high high, State.receiveGood_of_lt long]
  · rw [exec_manage, State.running_of_high high, State.receiveGood_of_lt long]
  intro s kind flags address tag code payload high fits body content
  have read : readTrunk content = some ⟨kind, flags, address, tag, code, payload, trunkCheck body⟩ :=
    readTrunk_eq_some.2 ⟨fits, rfl, rfl⟩
  have taken : exec (.trunkFrame content) s =
      .next ((s.bumpTrunk .goodFrames).classifyTrunk ⟨kind, flags, address, tag, code, payload, trunkCheck body⟩) := by
    rw [exec_trunkFrame_of_high high]
    simp only [State.receiveTrunk, read]
  rw [taken]
  refine ⟨?request, ?manage, ?hold, ?release, ?unknown⟩
  case request =>
    rintro rfl
    rw [exec_request, State.running_of_high high, State.receiveGood_of_le fits]
    rfl
  case manage =>
    rintro rfl
    rw [exec_manage_of_good high fits]
    rfl
  case hold =>
    rintro rfl
    rw [exec_hold_of_high high]
    rfl
  case release =>
    rintro rfl
    rw [exec_release_of_high high]
    rfl
  case unknown =>
    intro request manage hold release
    exact congrArg _ (State.classifyTrunk_of_unknown request manage hold release)

/-! ### The transmitter -/

/-- The transmitter after a frame has ended leaves the queue's rest (R151). -/
theorem State.endTransmission_of_inFlight {s : State} {head : OutFrame} {rest : List OutFrame} (toq : s.toq = head :: rest)
    (flight : s.tx.inFlight = true) :
    s.endTransmission =
      { s with
        toq := rest, tx := if s.tx = .held true then .held false else if rest = [] then .idle else .sending } := by
  rw [State.endTransmission, if_pos flight, toq]
  cases tx : s.tx with
  | idle => simp [tx, TrunkTx.inFlight] at flight
  | sending => cases rest <;> simp [TrunkTx.next]
  | held finishing =>
    obtain rfl : finishing = true := by simpa [tx, TrunkTx.inFlight] using flight
    simp [TrunkTx.next]

theorem framesIn_cons (place : Place) (f : OutFrame) (toq : List OutFrame) :
    framesIn place (f :: toq) = framesIn place toq + if f.place = place then 1 else 0 := by
  simp [framesIn, List.countP_cons]

/-- Settles O7: the head is the frame whose place is counted. -/
theorem trunkTransmissionEndFreesTheHead : Obligations.TrunkTransmissionEndFreesTheHead := by
  intro s head rest high toq flight
  rw [exec_trunkTransmissionEnd, State.running_of_high high, State.endTransmission_of_inFlight toq flight]
  refine ⟨_, rfl, rfl, fun reserved => ⟨?_, ?_⟩, fun pool => ⟨?_, ?_⟩⟩
  · change s.liveCount + framesIn .reserved rest + 1 = s.budgetInUse
    simp [State.budgetInUse, toq, framesIn_cons, reserved, Nat.add_assoc]
  · change framesIn .pool rest + s.agent.reservation = s.poolTaken
    simp [State.poolTaken, toq, framesIn_cons, reserved]
  · change framesIn .pool rest + s.agent.reservation + 1 = s.poolTaken
    simp only [State.poolTaken, toq, framesIn_cons, pool, if_true]
    omega
  · change s.liveCount + framesIn .reserved rest = s.budgetInUse
    simp [State.budgetInUse, toq, framesIn_cons, pool]

/-! ### The replies of the Management Agent -/

theorem buildTrunk_manageReply (address : Address) (tag code : Byte) (payload : List Byte) :
    buildTrunk kindManageReply address tag code payload =
      { kind := 4, flags := 0, address, tag, code, payload
        check := trunkCheck (0x40 :: address.extractLsb' 8 8 :: address.extractLsb' 0 8 :: tag :: code ::
          BitVec.ofNat 8 payload.length :: payload) } := by
  simp only [buildTrunk, trunkBody_eq]
  rfl

/-- Settles O9: the join as one update, and what the Agent takes after its reply. -/
theorem framesOfEachKindJoinTheOutputQueue : Obligations.FramesOfEachKindJoinTheOutputQueue := by
  refine ⟨⟨State.join_eq, fun s f => ⟨fun space => ?_, fun full => ?_⟩⟩, ?_⟩
  · rcases s.joinOrDrop_cases f with ⟨-, joined⟩ | ⟨full, -⟩
    · exact joined
    · exact absurd space (Nat.not_lt_of_le full)
  · rcases s.joinOrDrop_cases f with ⟨space, -⟩ | ⟨-, dropped⟩
    · exact absurd full (Nat.not_le_of_lt space)
    · exact dropped
  intro s q result payload run reply placed
  rw [State.answer_of_executing run, State.join_eq, buildTrunk_manageReply]
  have pooled : framesIn .pool (s.toq ++ [⟨reply, .pool⟩]) = framesIn .pool s.toq + 1 := framesIn_append _ _ _
  refine ⟨fun empty => State.agentNext_of_empty empty, fun next rest head space => ?_, fun next rest head full => ?_⟩
  · exact (State.agentNext_of_head (s := { placed with agent := .idle }) head).trans
      (if_pos (pooled ▸ Nat.succ_lt_succ space))
  · exact (State.agentNext_of_head (s := { placed with agent := .idle }) head).trans
      (if_neg (pooled ▸ Nat.not_lt_of_le (Nat.succ_le_succ full)))

/-! ### The code and length table -/

/-- Settles O10: the table row by row, and the frame of the commands for a misfit. -/
theorem misfitRequestsAreAnsweredBadRequest : Obligations.MisfitRequestsAreAnsweredBadRequest := by
  refine ⟨fun code payload => ?_, fun s q high run misfit => ⟨?_, fun c listed => ?_⟩⟩
  · simp only [List.mem_cons, List.not_mem_nil, or_false, ← BitVec.toNat_inj]
    unfold lengthAccepted
    split
    case h_11 at_code =>
      match payload with
      | [] | [_] => simp [at_code]
      | index :: count :: records => simp [at_code, Nat.add_comm 2]
    case h_25 => simp_all
    all_goals
      rename_i at_code
      simp [at_code]
  · rw [exec_unknownManagementCode_of_executing high run, misfit]
    rfl
  · obtain ⟨act, means⟩ := exec_requestCommand listed
    rw [means, State.carryOut_of_misfit ⟨high, q.tag, run⟩ misfit]

/-! ### The own address -/

theorem exec_setOwnAddress (s : State) : exec .setOwnAddress s = .next (s.carryOut 0x03 setOwnAddress) := rfl

/-- Settles O13: the forward lookup finds the address where an entry holds it. -/
theorem setOwnAddressRepliesFirst : Obligations.SetOwnAddressRepliesFirst := by
  intro s a1 a0 run
  rw [exec_setOwnAddress, State.carryOut_of_executes run rfl, setOwnAddress]
  refine ⟨fun i r live holds => congrArg _ (if_pos ?_), fun none_holds => congrArg _ (if_neg ?_)⟩
  · rw [Option.isSome_iff_ne_none]
    intro missing
    exact State.forwardLookup_eq_none.1 missing i r live holds
  · rw [State.forwardLookup_eq_none.2 none_holds]
    exact Bool.false_ne_true

end Sys2Proof.Machine
end

section
/-! Soft resets, the lookups of the Route Table, its feedback, and the admission of a request (chapters 3, 5 and 10). -/

namespace Sys2Proof.Machine

/-! ### The last reply of a soft reset -/

/-- With no request behind it the reply leaves the Agent IDLE (R159). -/
theorem State.answer_of_last {s : State} {q : ManageRequest} (run : s.agent = .executing q) (empty : s.inq = [])
    (result : Result) (payload : List Byte) :
    s.answer result payload =
      { s with
        agent := .idle, tx := if s.tx = .idle then .sending else s.tx
        toq := s.toq ++ [⟨buildTrunk kindManageReply s.ownAddress q.tag result.code payload, .pool⟩] } := by
  rw [State.answer_of_executing run, State.join_eq]
  exact State.agentNext_of_empty empty

theorem TrunkTx.begun_ne_idle (tx : TrunkTx) : (if tx = .idle then .sending else tx) ≠ TrunkTx.idle := by
  cases tx <;> nofun

/-- A soft reset leaves one trunk frame at most. -/
theorem State.framesIn_inTransmission_le (s : State) (place : Place) : framesIn place s.inTransmission ≤ 1 := by
  refine List.countP_le_length.trans ?_
  unfold State.inTransmission
  split
  · simp
  · simp

theorem State.freshAttention_of_calling {s : State} (calls : s.attentionCondition = true)
    (unasked : s.attentionPending = false) (space : s.poolTaken < 8) :
    s.freshAttention = s.join .pool s.attentionFrame := by
  rw [State.freshAttention, if_pos calls]
  rcases s.requestAttention_cases with ⟨asked, -⟩ | ⟨-, -, joined⟩ | ⟨-, full, -⟩
  · exact nomatch unasked.symm.trans asked
  · exact joined
  · exact absurd space (Nat.not_lt_of_le full)

theorem State.freshAttention_of_quiet {s : State} (quiet : s.attentionCondition = false) : s.freshAttention = s := by
  rw [State.freshAttention, quiet]
  rfl

theorem State.freshAttention_records (s : State) : s.freshAttention.records = s.records := by
  unfold State.freshAttention
  split <;> simp

theorem State.freshAttention_branches (s : State) : s.freshAttention.branches = s.branches := by
  unfold State.freshAttention
  split <;> simp

theorem BranchPort.tag_afterTraffic (now : Time) (p : BranchPort) (n : Fin 16) :
    (p.afterTraffic now).tag n = p.cooled now (p.tag n) := by
  rw [BranchPort.tag, BranchPort.afterTraffic, look_map]
  change TagRecord.afterTraffic _ (p.tag n) = _
  cases p.tag n <;> rfl

theorem BranchState.afterTraffic_eq (state : BranchState) :
    state.afterTraffic = if state.isDraining then .disabled else state := by
  cases state <;> rfl

theorem State.branch_afterTraffic (s : State) (b : Fin 4) :
    s.afterTraffic.branch b = (s.branch b).afterTraffic s.now := look_map _ _ _

theorem State.branch_afterFull (s : State) (b : Fin 4) : s.afterFull.branch b = (s.branch b).afterFull := look_map _ _ _

/-- Settles O14: the reply is the last of the input queue, and a fresh request finds a free place. -/
theorem trafficResetDiscardsTheWork : Obligations.TrafficResetDiscardsTheWork := by
  intro s run
  obtain ⟨tag, executing⟩ := run.2
  have replied := State.answer_of_last (s := s.afterTraffic) executing rfl .done [1]
  rw [exec_softResetTraffic, State.carryOut_softReset run, if_pos (beq_self_eq_true _)]
  generalize s.afterTraffic.answer .done [1] = u at replied
  have calling : u.attentionCondition = s.attentionCondition := by
    rw [replied]
    rfl
  have records : u.freshAttention.records = s.afterTraffic.records := by
    rw [State.freshAttention_records, replied]
  have branches (b : Fin 4) : u.freshAttention.branch b = (s.branch b).afterTraffic s.now := by
    rw [State.branch, State.freshAttention_branches, replied]
    exact s.branch_afterTraffic b
  refine ⟨_, tag, executing, rfl, ?_, fun i => ?_, fun b => ?_⟩
  · cases calls : s.attentionCondition with
    | false =>
      rw [State.freshAttention_of_quiet (calling.trans calls), replied]
      rfl
    | true =>
      have space : u.poolTaken < 8 := by
        rw [State.poolTaken, replied, framesIn_append]
        exact Nat.lt_of_le_of_lt (Nat.add_le_add_right (s.framesIn_inTransmission_le .pool) 1) (by decide)
      rw [State.freshAttention_of_calling (calling.trans calls) (by rw [replied]; rfl) space, State.join_eq, replied]
      simp only [if_neg (TrunkTx.begun_ne_idle _), List.append_assoc]
      rfl
  · rw [State.record, records]
    exact look_replicate _ _
  · rw [branches, BranchPort.afterTraffic, BranchState.afterTraffic_eq]
    exact ⟨rfl, BranchPort.tag_afterTraffic _ _⟩

/-- Settles O15: the reply is the last of the input queue; a scope out of range has its own command. -/
theorem fullResetKeepsOnlyTheOwnAddress : Obligations.FullResetKeepsOnlyTheOwnAddress := by
  refine ⟨fun s run => ?_, fun s scope run traffic full => ?_⟩
  · obtain ⟨tag, executing⟩ := run.2
    have replied := State.answer_of_last (s := s.afterFull) executing rfl .done [2]
    rw [exec_softResetFull, State.carryOut_softReset run, if_pos (beq_self_eq_true _), replied]
    exact ⟨_, tag, executing, rfl, rfl, s.branch_afterFull⟩
  · rw [exec_softResetBadValue, State.carryOut_softReset run, if_pos (by simpa using ⟨traffic, full⟩)]

/-! ### The lookups -/

/-- In a table with unique addresses the forward lookup finds the entry that holds one (R28, R29). -/
theorem State.forwardLookup_eq_some {s : State} (unique : s.RoutesUnique) {address : Address} {i : Fin 128} {r : LiveRoute} :
    s.forwardLookup address = some (i, r) ↔ (s.route i).live = some r ∧ r.config.globalAddress = address := by
  refine ⟨State.forwardLookup_spec, fun ⟨live, holds⟩ => ?_⟩
  cases found : s.forwardLookup address with
  | none => exact absurd holds (State.forwardLookup_eq_none.1 found i r live)
  | some entry =>
    obtain ⟨j, q⟩ := entry
    obtain ⟨live_j, holds_j⟩ := State.forwardLookup_spec found
    obtain rfl := unique.1 i j r live q live_j (holds.trans holds_j.symm)
    rw [Option.some.inj (live.symm.trans live_j)]

theorem State.reverseLookup_spec {s : State} {b : Fin 4} {localAddress : Byte} {i : Fin 128} {r : LiveRoute}
    (found : s.reverseLookup b localAddress = some (i, r)) :
    (s.route i).live = some r ∧ r.config.branch = b ∧ r.config.localAddress = localAddress := by
  obtain ⟨j, -, at_j⟩ := List.exists_of_findSome?_eq_some found
  split at at_j
  next q live =>
    split at at_j
    next holds => cases at_j; exact ⟨live, holds⟩
    next => cases at_j
  next => cases at_j

theorem State.reverseLookup_eq_none {s : State} {b : Fin 4} {localAddress : Byte} :
    s.reverseLookup b localAddress = none ↔
      ∀ i r, (s.route i).live = some r → ¬(r.config.branch = b ∧ r.config.localAddress = localAddress) := by
  unfold State.reverseLookup
  rw [List.findSome?_eq_none_iff]
  refine forall_congr' fun i => ?_
  cases live : (s.route i).live <;> simp

/-- In a table with unique places the reverse lookup finds the entry that holds one (R28, R30). -/
theorem State.reverseLookup_eq_some {s : State} (unique : s.RoutesUnique) {b : Fin 4} {localAddress : Byte} {i : Fin 128}
    {r : LiveRoute} :
    s.reverseLookup b localAddress = some (i, r) ↔
      (s.route i).live = some r ∧ r.config.branch = b ∧ r.config.localAddress = localAddress := by
  refine ⟨State.reverseLookup_spec, fun ⟨live, holds⟩ => ?_⟩
  cases found : s.reverseLookup b localAddress with
  | none => exact absurd holds (State.reverseLookup_eq_none.1 found i r live)
  | some entry =>
    obtain ⟨j, q⟩ := entry
    obtain ⟨live_j, branch_j, local_j⟩ := State.reverseLookup_spec found
    obtain rfl := unique.2.1 i j r live q live_j (holds.1.trans branch_j.symm) (holds.2.trans local_j.symm)
    rw [Option.some.inj (live.symm.trans live_j)]

/-- Settles O18: what a lookup finds holds the key, and by R28 no other entry does. -/
theorem lookupsFindTheOneEntry : Obligations.LookupsFindTheOneEntry := fun _ unique =>
  ⟨fun _ _ _ => State.forwardLookup_eq_some unique, fun _ => State.forwardLookup_eq_none,
    fun _ _ _ _ => State.reverseLookup_eq_some unique, fun _ _ => State.reverseLookup_eq_none,
    State.forwardLookup_eq_none.2 unique.2.2⟩

/-! ### Route feedback -/

/-- Settles O19: what an accepted report makes of the entry, and what becomes of one that is not accepted. -/
theorem routeFeedbackCountsAndQuarantines : Obligations.RouteFeedbackCountsAndQuarantines := by
  intro s snap
  constructor
  · intro stale
    have dropped : s.accepting snap = none := by
      unfold State.accepting
      split
      next current => exact Option.eq_none_iff_forall_ne_some.2 fun r live => stale r live current
      next => rfl
    simp only [State.reportMatched, State.reportTimeout, dropped, and_self]
  · intro r live current count entry
    have accepts : s.accepting snap = some r := (if_pos current).trans live
    have replaced (q : LiveRoute) : s.setLive snap.routeIndex q = entry q := by
      simp only [State.setLive, current, entry]
    have counted : satInc r.failures = count := satInc_eq _
    refine ⟨?_, fun holds => ?_, fun valid limited reached => ?_⟩
    · simp only [State.reportMatched, accepts, replaced]
    · simp only [State.reportTimeout, accepts, counted, replaced]
      refine if_neg ?_
      rcases holds with quarantined | unlimited | below
      · simp [quarantined]
      · simp [unlimited]
      · simp [Nat.not_le_of_lt below]
    · simp only [State.reportTimeout, accepts, counted, replaced]
      exact if_pos (by simpa [valid, reached] using limited)

/-! ### Admission of a request -/

/-- A request that passes every check is accepted (R70 to R75). -/
theorem State.judgeRequest_of_passed {s : State} {q : TrunkRequest} {op : Op} {tag : Fin 64} {i : Fin 128}
    {c : RouteConfig} {failures : BitVec 8} {recipe : Recipe} (header : q.header = some (op, tag))
    (found : s.forwardLookup q.address = some (i, ⟨c, false, failures⟩)) (permitted : c.permits op = true)
    (loaded : s.recipeOf (c.recipeFor op) op = some recipe) (enough : recipe.neededLength ≤ q.payload.length)
    (enabled : (s.branch c.branch).state = .enabled) (unused : s.slotOfTag q.tag = none) (room : s.budgetInUse < 32) :
    s.judgeRequest q = .accept i c op tag recipe.steps[0]? := by
  have within : ¬q.payload.length < recipe.neededLength := Nat.not_lt_of_le enough
  have unspent : ¬Config.budget ≤ s.budgetInUse := Nat.not_le_of_lt room
  simp [State.judgeRequest, header, found, permitted, loaded, within, enabled, unused, unspent]

/-- Settles O25: the request is accepted, and takes up its first step in the lowest free slot. -/
theorem admissionCreatesTheRecord : Obligations.AdmissionCreatesTheRecord := by
  intro s flags address tag op payload i c failures recipe first slot high short reserved found permitted loaded at_first
    enough enabled new room free least good created
  have header : TrunkRequest.header ⟨flags, address, indexByte tag, op.code, payload⟩ = some (op, tag) :=
    TrunkRequest.header_eq_some.2 ⟨rfl, indexByte_toNat (by decide) tag, short, reserved⟩
  have unused : s.slotOfTag (indexByte tag) = none := by
    refine State.slotOfTag_eq_none fun j q live same => new j q live ?_
    rw [indexByte_toNat (by decide)] at same
    exact Fin.ext same
  have verdict := State.judgeRequest_of_passed header found permitted loaded enough enabled unused room
  have lowest_free : s.freeSlot = some slot :=
    lowest_eq_some (Option.isNone_iff_eq_none.2 free) fun j before =>
      Bool.eq_false_iff.2 fun vacant => least j before (Option.isNone_iff_eq_none.1 vacant)
  rw [← State.judgeRequest_bumpTrunk s .goodFrames, at_first] at verdict
  rw [exec_request, State.running_of_high high, State.receiveGood_of_le (short.trans (by decide))]
  simp only [State.admission, verdict, State.createRecord]
  rw [show (s.bumpTrunk .goodFrames).freeSlot = some slot from lowest_free]
  cases first with
  | issue | await => rfl
  | pause duration => rfl

end Sys2Proof.Machine
end

section
/-! The Notice Queue (chapter 8): the attention condition and its requests, the claim of a notice, its lease, and the
settings. -/

namespace Sys2Proof.Machine

/-! ### The attention condition -/

theorem State.attentionCondition_iff {s : State} :
    s.attentionCondition = true ↔ ∃ n ∈ s.notices, n.claim = none ∧ s.threshold < n.severity := by
  simp [State.attentionCondition, Notice.calls, Notice.unclaimed_iff]

theorem State.attentionFrame_eq (s : State) :
    let calling := s.notices.filter fun n => n.claim.isNone && s.threshold < n.severity
    s.attentionFrame = buildTrunk kindAttention s.ownAddress 0 0
      [BitVec.ofNat 8 calling.length, BitVec.ofNat 8 ((calling.map fun n => n.severity.val).foldl max 0)] := by
  intro calling
  rw [List.foldl_map, ← List.countP_eq_length_filter]
  rfl

section Judging

variable {s : State}

theorem State.judgeAttention_of_quiet (quiet : s.attentionCondition = false) :
    s.judgeAttention = { s with attn := false } := by
  rw [State.judgeAttention, quiet]
  rfl

theorem State.judgeAttention_of_standing (calls : s.attentionCondition = true) (up : s.attn = true) :
    s.judgeAttention = s := by
  rw [State.judgeAttention, if_pos calls, if_pos up]

theorem State.judgeAttention_of_rise (calls : s.attentionCondition = true) (down : s.attn = false) :
    s.judgeAttention = { s with attn := true }.requestAttention := by
  rw [State.judgeAttention, if_pos calls, down]
  rfl

theorem State.requestAttention_of_pending (asked : s.attentionPending = true) : s.requestAttention = s :=
  if_pos asked

theorem State.requestAttention_of_space (unasked : s.attentionPending = false) (space : s.poolTaken < 8) :
    s.requestAttention = s.join .pool s.attentionFrame := by
  rw [State.requestAttention, unasked, s.poolFree_iff.2 space]
  rfl

theorem State.requestAttention_of_full (unasked : s.attentionPending = false) (full : 8 ≤ s.poolTaken) :
    s.requestAttention = { s with attentionPending := true } := by
  rw [State.requestAttention, unasked, if_neg Bool.false_ne_true, if_neg (mt s.poolFree_iff.1 (Nat.not_lt_of_le full))]

theorem State.resolvePending_of_not (not_due : s.attentionPending = false ∨ 8 ≤ s.poolTaken) : s.resolvePending = s := by
  refine if_neg ?_
  rw [Bool.and_eq_true, s.poolFree_iff]
  rintro ⟨asked, space⟩
  rcases not_due with unasked | full
  · exact nomatch unasked.symm.trans asked
  · exact Nat.not_lt_of_le full space

theorem State.resolvePending_of_due (asked : s.attentionPending = true) (space : s.poolTaken < 8) :
    s.resolvePending =
      if s.attentionCondition then ({ s with attentionPending := false }).join .pool s.attentionFrame
      else { s with attentionPending := false } :=
  if_pos (by rw [asked, s.poolFree_iff.2 space]; rfl)

end Judging

theorem exec_pendingRequestResolved_of_high {s : State} (high : s.resetLow = false) :
    exec .pendingRequestResolved s = .next s.resolvePending :=
  congrArg _ (State.running_of_high high _)

/-- Settles O42: the judging by the condition and ATTN#, the request by the pool. -/
theorem attentionIsRequestedOnceARise : Obligations.AttentionIsRequestedOnceARise := by
  intro s holds calling frame
  have quiet : ¬holds → s.attentionCondition = false := fun fails =>
    Bool.eq_false_iff.2 fun calls => fails (State.attentionCondition_iff.1 calls)
  have calls : holds → s.attentionCondition = true := State.attentionCondition_iff.2
  have built : s.attentionFrame = frame := s.attentionFrame_eq
  refine ⟨fun fails => State.judgeAttention_of_quiet (quiet fails),
    fun stands up => State.judgeAttention_of_standing (calls stands) up, fun rises down => ?_, fun high => ?_⟩
  · rw [State.judgeAttention_of_rise (calls rises) down, ← built]
    let raised : State := { s with attn := true }
    exact ⟨State.requestAttention_of_pending (s := raised), State.requestAttention_of_space (s := raised),
      State.requestAttention_of_full (s := raised)⟩
  · rw [exec_pendingRequestResolved_of_high high]
    refine ⟨fun not_due => congrArg _ (State.resolvePending_of_not not_due), fun asked space => ?_⟩
    rw [State.resolvePending_of_due asked space, ← built]
    exact ⟨fun stands => congrArg _ (if_pos (calls stands)), fun fails => congrArg _ (by rw [quiet fails]; rfl)⟩

/-! ### The settings -/

theorem exec_noticeSettings (s : State) : exec .noticeSettings s = .next (s.carryOut 0x62 noticeSettings) := rfl

/-- Settles O46: the ranges of both operands; above severity 7 there is none to call. -/
theorem noticeSettingsAreReplaced : Obligations.NoticeSettingsAreReplaced := by
  refine ⟨fun s threshold lease run => ?_, fun s highest => ?_⟩
  · rw [exec_noticeSettings, State.carryOut_of_executes run rfl, noticeSettings]
    refine ⟨fun bad => congrArg _ ?_, fun v is some_lease in_range => congrArg _ ?_⟩
    · cases read : index? 8 threshold with
      | none => rfl
      | some v =>
        have low : threshold.toNat ≤ 7 := index?_eq_some.1 read ▸ Nat.le_of_lt_succ v.isLt
        exact if_pos (bad.resolve_left (Nat.not_lt_of_le low))
    · rw [index?_eq_some.2 is]
      exact if_neg (not_or.2 ⟨some_lease, Nat.not_lt_of_le in_range⟩)
  · refine Bool.eq_false_iff.2 fun calls => ?_
    obtain ⟨n, -, -, above⟩ := State.attentionCondition_iff.1 calls
    rw [highest] at above
    exact absurd (Fin.le_last n.severity) (not_le_of_gt above)

/-! ### A claim -/

theorem exec_noticeClaim (s : State) : exec .noticeClaim s = .next (s.carryOut 0x60 noticeClaim) := rfl

/-- The record of a notice by its source (R13). -/
theorem Notice.bytes_eq (n : Notice) :
    n.bytes =
      [n.source.bytes.1, indexByte n.severity,
        (if n.globalAddress = none then 0 else 1) ||| (if n.forced then 2 else 0) |||
          (if n.previousId = none then 0 else 4), n.source.bytes.2.1, n.source.bytes.2.2] ++
      ([((n.globalAddress.getD 0).extractLsb' 8 8), ((n.globalAddress.getD 0).extractLsb' 0 8), n.repeats, n.claimId,
        n.previousId.getD 0, BitVec.ofNat 8 n.data.length] ++ n.data ++ List.replicate (8 - n.data.length) 0) := by
  have flags : BitVec.ofNat 8 (n.globalAddress.isSome.toNat + 2 * n.forced.toNat + 4 * n.previousId.isSome.toNat) =
      (if n.globalAddress = none then 0 else 1) ||| (if n.forced then 2 else 0) |||
        (if n.previousId = none then 0 else 4) := by
    cases n.globalAddress <;> cases n.forced <;> cases n.previousId <;> simp
  simp only [Notice.bytes, flags, toBytes_two, List.append_assoc]
  rfl

theorem claimChoice_eq_none {ns : List Notice} {minimum : Nat}
    (below : ∀ n ∈ ns, n.claim = none → n.severity.val < minimum) : claimChoice minimum ns = none := by
  have empty : (ns.filter fun n => n.unclaimed && decide (minimum ≤ n.severity.val)) = [] := by
    simpa [List.filter_eq_nil_iff, Notice.unclaimed_iff] using below
  simp only [claimChoice, highestWhere, empty, List.map_nil, List.max?_nil]

theorem claimChoice_of_oldest_highest {ns : List Notice} {minimum i : Nat} {n : Notice} (at_i : ns[i]? = some n)
    (unclaimed : n.claim = none) (enough : minimum ≤ n.severity.val)
    (first : ∀ (j : Nat) (m : Notice), ns[j]? = some m → m.claim = none →
      m.severity ≤ n.severity ∧ (m.severity = n.severity → i ≤ j)) : claimChoice minimum ns = some i := by
  have highest : highestWhere (fun n => n.unclaimed && decide (minimum ≤ n.severity.val)) ns = some n.severity := by
    simp only [highestWhere, List.max?_eq_some_iff, List.mem_map, List.mem_filter, Bool.and_eq_true, Notice.unclaimed_iff,
      decide_eq_true_iff]
    refine ⟨⟨n, ⟨List.mem_of_getElem? at_i, unclaimed, enough⟩, rfl⟩, ?_⟩
    rintro _ ⟨m, ⟨held, free, -⟩, rfl⟩
    obtain ⟨j, at_j⟩ := List.getElem?_of_mem held
    exact (first j m at_j free).1
  simp only [claimChoice, highest]
  refine findIdx?_of_least at_i (by simp [Notice.unclaimed_iff, unclaimed]) fun j m at_j accepts => ?_
  obtain ⟨free, same⟩ : m.claim = none ∧ m.severity = n.severity := by simpa [Notice.unclaimed_iff] using accepts
  exact (first j m at_j free).2 same

/-- Settles O43: the record's layout, and the choice as the search makes it. -/
theorem claimTakesTheHighestThenOldest : Obligations.ClaimTakesTheHighestThenOldest := by
  refine ⟨?_, fun s minimum run => ?_⟩
  · intro n short rest flags
    have written : n.bytes = [n.source.bytes.1, indexByte n.severity, flags, n.source.bytes.2.1, n.source.bytes.2.2] ++ rest :=
      n.bytes_eq
    refine ⟨?_, ?_⟩
    · simp [written, rest]
      omega
    · rw [written]
      refine ⟨fun b a is => ?_, fun i is => ?_, fun b is => ?_, fun b is => ?_⟩ <;> rw [is] <;> rfl
  · rw [exec_noticeClaim, State.carryOut_of_executes run rfl, noticeClaim]
    refine ⟨fun bad => congrArg _ (if_pos bad), fun positive in_range => ?_⟩
    rw [if_neg (not_or.2 ⟨positive, Nat.not_lt_of_le in_range⟩)]
    refine ⟨fun below => ?_, ?_⟩
    · rw [claimChoice_eq_none below]
    · intro i n at_i unclaimed enough first claimed
      simp only [claimChoice_of_oldest_highest at_i unclaimed enough first, at_i, toBytes_two]
      rfl

/-! ### The end of a lease -/

theorem exec_leaseExpiry_of_claimed {s : State} {place : Fin 16} {n : Notice} {c : Claim} (high : s.resetLow = false)
    (held : s.notices[place.val]? = some n) (claimed : n.claim = some c) :
    exec (.leaseExpiry place) s = .next
      ({ s with now := max s.now c.deadline, notices := lapse s.notices place.val n c.id } : State).judgeAttention := by
  change execLeaseExpiry place s = _
  simp only [execLeaseExpiry, State.running_of_high high, State.expireLease, held, claimed, State.reach]

theorem lapse_of_alone {ns : List Notice} {n : Notice} (alone : ∀ m ∈ ns, m.claim = none → m.source ≠ n.source)
    (i : Nat) (lapsed : BitVec 8) : lapse ns i n lapsed = ns.set i { n with claim := none, previousId := some lapsed } := by
  have missing : (ns.findIdx? fun m => m.unclaimed && m.source == n.source) = none := by
    simpa [List.findIdx?_eq_none_iff, Notice.unclaimed_iff] using alone
  simp only [lapse, missing]

theorem lapse_of_other {ns : List Notice} {j : Nat} {n m : Notice} (at_j : ns[j]? = some m) (free : m.claim = none)
    (same : m.source = n.source)
    (first : ∀ (k : Nat) (l : Notice), ns[k]? = some l → l.claim = none → l.source = n.source → j ≤ k)
    (i : Nat) (lapsed : BitVec 8) :
    lapse ns i n lapsed =
      if i < j then (ns.set i (n.merge m lapsed)).eraseIdx j else (ns.set j (m.merge n lapsed)).eraseIdx i := by
  have found : (ns.findIdx? fun m => m.unclaimed && m.source == n.source) = some j := by
    refine findIdx?_of_least at_j (by simp [Notice.unclaimed_iff, free, same]) fun k l at_k accepts => ?_
    obtain ⟨unclaimed, source⟩ : l.claim = none ∧ l.source = n.source := by simpa [Notice.unclaimed_iff] using accepts
    exact first k l at_k unclaimed source
  simp only [lapse, found, at_j]

/-- The merged notice, its severity and its held sum written out (R138). -/
theorem Notice.merge_eq (earlier later : Notice) (lapsed : BitVec 8) :
    earlier.merge later lapsed =
      { earlier with
        severity := if earlier.severity < later.severity then later.severity else earlier.severity
        globalAddress := later.globalAddress
        repeats := if 255 ≤ earlier.repeats.toNat + later.repeats.toNat then 255 else earlier.repeats + later.repeats
        data := later.data, forced := earlier.forced || later.forced, claim := none, previousId := some lapsed } := by
  rw [Notice.merge, satAdd_byte_eq, severity_max_eq]

/-- Settles O45: the search finds the other UNCLAIMED notice of the source, where there is one. -/
theorem lapsedLeaseReturnsOrMerges : Obligations.LapsedLeaseReturnsOrMerges := by
  intro s place n c high held claimed lapses merged
  have expires := exec_leaseExpiry_of_claimed high held claimed
  refine ⟨fun alone => ?_, fun j m at_j free same first => ?_⟩
  · rwa [lapse_of_alone alone] at expires
  · rw [lapse_of_other at_j free same first, Notice.merge_eq, Notice.merge_eq] at expires
    refine ⟨fun before => ?_, fun after => ?_⟩
    · rwa [if_pos before] at expires
    · rwa [if_neg (Nat.lt_asymm after)] at expires

end Sys2Proof.Machine
end

section
/-! A branch's traffic (chapters 4, 6 and 7): how an answer is judged, what the timers do, what the scheduler sends, and
what the receiver makes of a frame. -/

namespace Sys2Proof.Machine

/-! ### Answers -/

section Answer

variable {s : State} {slot : Fin 32} {r : Record} {status : Byte} {payload : List Byte}

theorem State.stepOf_reportMatched (s : State) (r : Record) : (s.reportMatched r.snapshot).stepOf r = s.stepOf r := by
  rw [State.stepOf, State.stepsOf_congr (s := s) (r := r) (by simp) rfl rfl, State.stepOf]

theorem State.takeAnswer_of_failure {e : Ending}
    (judged : judgeAnswer (s.stepOf r) r.accumulator.length r.attempts status payload = .failure e) :
    s.takeAnswer slot r status payload = (s.reportMatched r.snapshot).endTransaction slot r e := by
  simp only [State.takeAnswer, State.stepOf_reportMatched, judged]

theorem State.takeAnswer_of_success {bytes : List Byte}
    (judged : judgeAnswer (s.stepOf r) r.accumulator.length r.attempts status payload = .success bytes) :
    s.takeAnswer slot r status payload =
      (s.reportMatched r.snapshot).advance slot { r with accumulator := r.accumulator ++ bytes } := by
  simp only [State.takeAnswer, State.stepOf_reportMatched, judged]

theorem State.takeAnswer_of_again {spacing : BitVec 16}
    (judged : judgeAnswer (s.stepOf r) r.accumulator.length r.attempts status payload = .again spacing) :
    s.takeAnswer slot r status payload = (s.reportMatched r.snapshot).setRecord slot
      (some { r with attempts := r.attempts + 1, state := .spacing (s.now + spacing.toNat) }) := by
  simp [State.takeAnswer, State.stepOf_reportMatched, judged]

end Answer

section Judgements

variable {accumulated attempts : Nat} {payload : List Byte} {op : Op} {block : Option (Fin 32)}

theorem judgeAnswer_of_status {status : Byte} (bad : status ≠ 0) (step : Option Step) :
    judgeAnswer step accumulated attempts status payload = .failure (.nodeError status) :=
  if_pos bad

section Issue

variable {offset : Fin 64} {slice capture : Extent}

theorem judgeAnswer_issue_of_short (missing : capture? payload capture = none) :
    judgeAnswer (some (.issue op block offset slice capture)) accumulated attempts 0 payload = .failure .shortData := by
  simp [judgeAnswer, missing]

variable {bytes : List Byte} (captured : capture? payload capture = some bytes)
include captured

theorem judgeAnswer_issue_of_long (long : 64 < accumulated + bytes.length) :
    judgeAnswer (some (.issue op block offset slice capture)) accumulated attempts 0 payload = .failure .stepOversize := by
  simp [judgeAnswer, captured, Config.maxData, long]

theorem judgeAnswer_issue_of_fits (fits : accumulated + bytes.length ≤ 64) :
    judgeAnswer (some (.issue op block offset slice capture)) accumulated attempts 0 payload = .success bytes := by
  simp [judgeAnswer, captured, Config.maxData, Nat.not_lt_of_le fits]

end Issue

section Await

variable {index : Fin 64} {mask expected : Byte} {limit : BitVec 8} {spacing : BitVec 16}

theorem judgeAnswer_await_of_short (short : payload.length ≤ index.val) :
    judgeAnswer (some (.await op block index mask expected limit spacing)) accumulated attempts 0 payload =
      .failure .shortData := by
  simp [judgeAnswer, List.getElem?_eq_none short]

variable {byte : Byte} (at_index : payload[index.val]? = some byte)
include at_index

theorem judgeAnswer_await_of_match (holds : byte &&& mask = expected) :
    judgeAnswer (some (.await op block index mask expected limit spacing)) accumulated attempts 0 payload = .success [] := by
  simp [judgeAnswer, at_index, holds]

theorem judgeAnswer_await_of_again (fails : byte &&& mask ≠ expected) (below : attempts + 1 < limit.toNat) :
    judgeAnswer (some (.await op block index mask expected limit spacing)) accumulated attempts 0 payload =
      .again spacing := by
  simp [judgeAnswer, at_index, fails, below]

theorem judgeAnswer_await_of_exhausted (fails : byte &&& mask ≠ expected) (spent : limit.toNat ≤ attempts + 1) :
    judgeAnswer (some (.await op block index mask expected limit spacing)) accumulated attempts 0 payload =
      .failure .awaitExhausted := by
  simp [judgeAnswer, at_index, fails, Nat.not_lt_of_le spent]

end Await

end Judgements

/-- Settles O30: the judgement of each step, and what each judgement does. -/
theorem answersAreJudgedByTheStep : Obligations.AnswersAreJudgedByTheStep := by
  intro s slot r status payload t fails succeeds
  refine ⟨fun bad => State.takeAnswer_of_failure (judgeAnswer_of_status bad _), ?_⟩
  rintro rfl
  refine ⟨fun op block offset slice capture at_step => ⟨?_, ?_⟩,
    fun op block index mask expected limit spacing at_step => ⟨fun short => ?_, fun byte at_index => ⟨?_, ?_, ?_⟩⟩⟩
  · rintro n rfl
    have captures (enough : n.val ≤ payload.length) :
        capture? payload (.bytes n) = some (payload.take n.val) ∧ (payload.take n.val).length = n.val :=
      ⟨if_neg (Nat.not_lt_of_le enough), List.length_take_of_le enough⟩
    refine ⟨fun short => ?_, fun enough long => ?_, fun enough fits => ?_⟩
    · exact State.takeAnswer_of_failure (at_step ▸ judgeAnswer_issue_of_short (if_pos short))
    · obtain ⟨captured, length⟩ := captures enough
      exact State.takeAnswer_of_failure (at_step ▸ judgeAnswer_issue_of_long captured (by rwa [length]))
    · obtain ⟨captured, length⟩ := captures enough
      exact State.takeAnswer_of_success (at_step ▸ judgeAnswer_issue_of_fits captured (by rwa [length]))
  · rintro rfl
    exact ⟨fun long => State.takeAnswer_of_failure (at_step ▸ judgeAnswer_issue_of_long rfl long),
      fun fits => State.takeAnswer_of_success (at_step ▸ judgeAnswer_issue_of_fits rfl fits)⟩
  · exact State.takeAnswer_of_failure (at_step ▸ judgeAnswer_await_of_short short)
  · exact fun holds => State.takeAnswer_of_success (at_step ▸ judgeAnswer_await_of_match at_index holds)
  · exact fun fails below => State.takeAnswer_of_again (at_step ▸ judgeAnswer_await_of_again at_index fails below)
  · exact fun fails spent =>
      State.takeAnswer_of_failure (at_step ▸ judgeAnswer_await_of_exhausted at_index fails spent)

/-! ### Timers -/

section Timers

variable {s : State} (high : s.resetLow = false) {b : Fin 4} {n : Fin 16} {slot : Fin 32} {r : Record}
include high

theorem exec_exchangeTimerExpiry_of_running {deadline : Time} (live : s.record slot = some r) (on : r.snapshot.branch = b)
    (issued : r.state = .issued n (some deadline))
    (only : ∀ i q d, s.record i = some q → q.snapshot.branch = b → q.state = .issued n d → i = slot) :
    exec (.exchangeTimerExpiry b n) s =
      .next ((((s.reach deadline).bumpBranch b .timeouts).coolTag b n).timeOut slot r) := by
  change execExchangeTimerExpiry b n s = _
  simp only [execExchangeTimerExpiry, State.running_of_high high, State.holderOf_of_only live on issued only, live, issued]

theorem exec_spacingExpiry_of_spacing {deadline : Time} (live : s.record slot = some r)
    (spaced : r.state = .spacing deadline) :
    exec (.spacingExpiry slot) s = .next ((s.reach deadline).queueRecord slot r) := by
  change execSpacingExpiry slot s = _
  simp only [execSpacingExpiry, State.running_of_high high, live, spaced]

theorem exec_pauseExpiry_of_paused {deadline : Time} (live : s.record slot = some r)
    (paused : r.state = .paused deadline) : exec (.pauseExpiry slot) s = .next ((s.reach deadline).advance slot r) := by
  change execPauseExpiry slot s = _
  simp only [execPauseExpiry, State.running_of_high high, live, paused]

theorem exec_drainDeadlineExpiry_of_draining {deadline : Time} (draining : (s.branch b).state = .draining deadline) :
    exec (.drainDeadlineExpiry b) s = .next
      ((((s.reach deadline).endBranchRecords b .aborted).setBranchState b .disabled).post (forcedDrainNotice b)) := by
  change execDrainDeadlineExpiry b s = _
  simp only [execDrainDeadlineExpiry, State.running_of_high high, draining]

theorem exec_coolDeadlineExpiry_of_cooling {p : Fin 4} {a : Byte} {deadline : Time}
    (cooling : (s.branch b).tag n = .cooling p a deadline) :
    exec (.coolDeadlineExpiry b n) s = .next ((s.reach deadline).setTag b n .free) := by
  change execCoolDeadlineExpiry b n s = _
  simp only [execCoolDeadlineExpiry, State.running_of_high high, cooling]

theorem exec_branchTransmissionEnd_of_some {f : BranchRequest} (busy : (s.branch b).tx = some f) :
    exec (.branchTransmissionEnd b) s = .next ((s.setBranch b { s.branch b with tx := none }).startTimer b f.tag) := by
  change execBranchTransmissionEnd b s = _
  simp only [execBranchTransmissionEnd, State.running_of_high high, busy]

end Timers

theorem State.timeOut_of_lt {r : Record} (below : r.retries < r.snapshot.retryLimit.val) (s : State) (slot : Fin 32) :
    s.timeOut slot r = s.queueRecord slot { r with retries := r.retries + 1 } :=
  if_pos below

theorem State.timeOut_of_le {r : Record} (spent : r.snapshot.retryLimit.val ≤ r.retries) (s : State) (slot : Fin 32) :
    s.timeOut slot r = s.endTransaction slot r .timeout :=
  if_neg (Nat.not_lt_of_le spent)

/-- Settles O31: the counted timeout and the cooled tag are one port, from which the record goes on or ends. -/
theorem exchangeTimeoutRetriesOrEnds : Obligations.ExchangeTimeoutRetriesOrEnds := by
  intro s b n slot r deadline high live on issued only now port cooling
  have cooled : ((s.reach deadline).bumpBranch b .timeouts).coolTag b n = cooling := by
    rw [State.coolTag, State.bumpBranch, State.branch_setBranch_self, State.Moves.setBranch_twice,
      BranchPort.coolTag_eq_cooled]
    rfl
  rw [exec_exchangeTimerExpiry_of_running high live on issued only, cooled]
  refine ⟨fun below => ?_, fun spent => ?_⟩
  · subst on
    have port_eq : cooling.branch r.snapshot.branch = port.setTag n (port.cooled now (port.tag n)) :=
      State.branch_setBranch_self _ _ _
    rw [State.timeOut_of_lt below, State.queueRecord_eq]
    simp only [port_eq]
    rfl
  · rw [State.timeOut_of_le spent]

/-- Settles O34, timer by timer. -/
theorem recordAndBranchDeadlinesExpire : Obligations.RecordAndBranchDeadlinesExpire := by
  constructor
  · intro s slot r deadline high live due b
    refine ⟨fun spaced => ?_, exec_pauseExpiry_of_paused high live⟩
    rw [exec_spacingExpiry_of_spacing high live spaced, State.queueRecord_eq]
    rfl
  · intro s b deadline high due
    exact ⟨exec_drainDeadlineExpiry_of_draining high, fun n p a => exec_coolDeadlineExpiry_of_cooling high⟩

/-! ### The scheduler and the end of a transmission -/

theorem State.canIssue_iff {s : State} {b : Fin 4} :
    s.canIssue b = true ↔
      (s.branch b).state.working = true ∧ (s.branch b).tx = none ∧ s.issuedOn b < (s.branch b).settings.window ∧
        (∃ n, (s.branch b).tag n = .free) ∧ (s.branch b).issueQueue ≠ [] := by
  have free (n : Fin 16) : ((s.branch b).tag n).isFree = true ↔ (s.branch b).tag n = .free := by
    cases (s.branch b).tag n <;> simp [TagRecord.isFree]
  simp [State.canIssue, BranchPort.freeTag, lowest, free, and_assoc]

theorem exec_schedulerIssue_of_not {s : State} {b : Fin 4} (fails : s.canIssue b = false) :
    exec (.schedulerIssue b) s = .next s := by
  change execSchedulerIssue b s = _
  cases low : s.resetLow with
  | true => rw [execSchedulerIssue, State.running_of_low low]
  | false => simp only [execSchedulerIssue, State.running_of_high low, fails, Bool.false_eq_true, if_false]

theorem exec_schedulerIssue_of_head {s : State} {b : Fin 4} {slot : Fin 32} {rest : List (Fin 32)} {r : Record}
    (high : s.resetLow = false) (may : s.canIssue b = true) (head : (s.branch b).issueQueue = slot :: rest)
    (live : s.record slot = some r) : exec (.schedulerIssue b) s = .next (s.scheduleRecord b slot r) := by
  change execSchedulerIssue b s = _
  simp only [execSchedulerIssue, State.running_of_high high, may, if_true, head, live]

theorem State.scheduleRecord_of_built {s : State} {b : Fin 4} {slot : Fin 32} {r : Record} {step : Step} {n : Fin 16}
    {op : Op} {payload : List Byte} (at_step : s.stepOf r = some step) (free : (s.branch b).freeTag = some n)
    (built : s.buildStep r step = some (op, payload)) :
    s.scheduleRecord b slot r =
      if step.tooLong payload then (s.setBranch b ((s.branch b).dequeue slot)).endTransaction slot r .stepOversize
      else (s.setBranch b ((s.branch b).dequeue slot)).issue b slot r n op payload := by
  simp only [State.scheduleRecord, at_step, free, built]

/-- An issue as one update of the record and one of the port (R116). -/
theorem State.issue_setBranch (s : State) (b : Fin 4) (p : BranchPort) (slot : Fin 32) (r : Record) (n : Fin 16) (op : Op)
    (payload : List Byte) :
    (s.setBranch b p).issue b slot r n op payload =
      (s.setRecord slot (some { r with state := .issued n none })).setBranch b
        { (p.setTag n (.inUse r.snapshot.profile r.snapshot.localAddress)).bump .exchangesIssued with
          tx := some (buildRequest (s.profile r.snapshot.profile) r.snapshot.localAddress n op payload) } := by
  simp only [State.issue, State.bumpBranch, State.branch_setBranch_self, State.Moves.setBranch_twice]
  exact State.Moves.setBranch_twice (s.setRecord slot _) b p _

/-- Settles O35: the head of the queue is taken with the lowest FREE tag, and its step's frame is what R116 builds. -/
theorem schedulerIssuesTheHeadRecord : Obligations.SchedulerIssuesTheHeadRecord := by
  constructor
  · intro s b fails
    refine exec_schedulerIssue_of_not (Bool.eq_false_iff.2 fun may => ?_)
    obtain ⟨works, idle, below, ⟨n, free⟩, queued⟩ := State.canIssue_iff.1 may
    rcases fails with closed | busy | full | taken | ⟨urgent, normal⟩
    · exact nomatch closed.symm.trans works
    · exact busy idle
    · exact Nat.not_lt_of_le full below
    · exact taken n free
    · exact queued (by rw [BranchPort.issueQueue, urgent, normal]; rfl)
  · intro s b n slot r step op payload high works idle below free least head live at_step built taken
    obtain ⟨rest, queue⟩ : ∃ rest, (s.branch b).issueQueue = slot :: rest := by
      rcases head with ⟨rest, urgent⟩ | ⟨urgent, rest, normal⟩
      · exact ⟨_, by rw [BranchPort.issueQueue, urgent]; rfl⟩
      · exact ⟨rest, by rw [BranchPort.issueQueue, urgent, normal]; rfl⟩
    have may : s.canIssue b = true :=
      State.canIssue_iff.2 ⟨works, idle, below, ⟨n, free⟩, by rw [queue]; exact List.cons_ne_nil _ _⟩
    have free_tag : (s.branch b).freeTag = some n := by
      refine lowest_eq_some (by rw [free]; rfl) fun m before => ?_
      cases at_m : (s.branch b).tag m with
      | free => exact absurd at_m (least m before)
      | inUse | cooling => rfl
    have built_step : s.buildStep r step = some (op, payload) := by
      cases step with
      | issue o block offset slice capture =>
        obtain ⟨rfl, rfl⟩ := built
        cases block <;> cases slice <;> rfl
      | await o block index mask expected limit spacing =>
        obtain ⟨rfl, rfl⟩ := built
        cases block <;> rfl
      | pause d => cases built
    rw [exec_schedulerIssue_of_head high may queue live, State.scheduleRecord_of_built at_step free_tag built_step]
    refine ⟨fun issues long => ?_, fun sends => ?_⟩
    · obtain ⟨o, block, offset, slice, capture, rfl⟩ := issues
      exact congrArg _ (if_pos (decide_eq_true long))
    · have short : step.tooLong payload = false := by
        rcases sends with ⟨o, block, index, mask, expected, limit, spacing, rfl⟩ | fits
        · rfl
        · cases step with
          | issue => exact decide_eq_false (Nat.not_lt_of_le fits)
          | await | pause => rfl
      rw [short, if_neg Bool.false_ne_true, State.issue_setBranch]
      rfl

/-- Where the tag is held, the exchange timer of its one holder starts. -/
theorem State.startTimer_of_held {s : State} {b : Fin 4} {n : Fin 16} {p : Fin 4} {a : Byte} {slot : Fin 32} {r : Record}
    {d : Option Time} (in_use : (s.branch b).tag n = .inUse p a) (live : s.record slot = some r)
    (on : r.snapshot.branch = b) (issued : r.state = .issued n d)
    (only : ∀ i q e, s.record i = some q → q.snapshot.branch = b → q.state = .issued n e → i = slot) :
    s.startTimer b n =
      s.setRecord slot (some { r with state := .issued n (some (s.now + r.snapshot.timeout.toNat)) }) := by
  simp only [State.startTimer, in_use, State.holderOf_of_only live on issued only, live]
  rfl

theorem State.startTimer_of_not_held {s : State} {b : Fin 4} {n : Fin 16}
    (unused : ∀ p a, (s.branch b).tag n ≠ .inUse p a) : s.startTimer b n = s := by
  refine if_neg ?_
  cases at_n : (s.branch b).tag n with
  | inUse p a => exact absurd at_n (unused p a)
  | free | cooling => nofun

/-- Settles O36: the port's idle transmitter leaves its tags and every record as they were. -/
theorem branchTransmissionEndStartsTheTimer : Obligations.BranchTransmissionEndStartsTheTimer := by
  intro s b f high busy idle
  have tag (n : Fin 16) : (idle.branch b).tag n = (s.branch b).tag n := by
    rw [State.branch_setBranch_self]
    rfl
  rw [exec_branchTransmissionEnd_of_some high busy]
  refine ⟨fun unused => congrArg _ (State.startTimer_of_not_held fun p a => ?_),
    fun p a slot r d in_use live on issued only => ?_⟩
  · rw [tag]
    exact unused p a
  · exact congrArg _ (State.startTimer_of_held ((tag _).trans in_use) live on issued only)

end Sys2Proof.Machine
end

section
/-! The receivers (sections 7.7, 7.8, 9.1 and 9.5): branch content and responses, and the counters that a frame raises. -/

namespace Sys2Proof.Machine

/-! ### The content of branch frames -/

theorem BranchPort.checksWith_iff {port : BranchPort} {kind tag : Byte} {p : Fin 4} :
    port.ChecksWith kind tag p ↔ p = port.profileFor kind tag := by
  unfold BranchPort.ChecksWith BranchPort.profileFor
  split
  next response =>
    split
    next n named =>
      have names (m : Fin 16) : tag.toNat = m.val ↔ m = n := by
        rw [index?_eq_some.1 named, Fin.val_inj, eq_comm]
      simp only [response, true_and, true_implies, names, exists_eq_left, forall_eq]
      cases port.tag n <;> simp [eq_comm]
    next unnamed =>
      have names (m : Fin 16) : tag.toNat ≠ m.val := fun is => by
        rw [index?_eq_some.2 is] at unnamed
        cases unnamed
      simp [response, names]
  next other => simp only [other, false_and, false_implies, true_and, false_or]

section Content

variable {s : State} {b : Fin 4}

theorem State.receiveBranch_of_some (works : (s.branch b).state.working = true) (f : BranchFrame) :
    s.receiveBranch b (some f) = (s.markGood b).classifyBranch b f := by
  simp [State.receiveBranch, works]

theorem State.receiveBranch_of_none (works : (s.branch b).state.working = true) : s.receiveBranch b none = s.takeBad b := by
  simp [State.receiveBranch, works]

theorem goodFrame_of_lt {f : BranchFrame} (long : 64 < f.payload.length) : goodFrame f = none :=
  if_neg (Nat.not_le_of_lt long)

/-- Content that no fields of a good frame give is not read. -/
theorem readBranch_eq_none {content : List Byte}
    (other : ∀ kind localAddress tag opOrStatus payload p, payload.length ≤ 64 → (s.branch b).ChecksWith kind tag p →
      content ≠ branchBody kind localAddress tag opOrStatus payload ++
        (s.profile p).checkBytes (branchBody kind localAddress tag opOrStatus payload)) :
    readBranch (s.branch b) s.profiles content = none := by
  refine Option.eq_none_iff_forall_ne_some.2 fun f read => ?_
  obtain ⟨fits, whole⟩ := readBranch_eq_some.1 read
  exact other _ _ _ _ _ _ fits (BranchPort.checksWith_iff.2 rfl) whole

theorem State.classifyBranch_of_unknown {f : BranchFrame} (response : f.kind ≠ 2) (alert : f.kind ≠ 3) :
    s.classifyBranch b f = s.bumpBranch b .unexpected := by
  simp only [State.classifyBranch, if_neg response, if_neg alert, ite_self]

/-- An ALERT's tag and op-or-status bytes are ignored (R10). -/
theorem State.classifyBranch_alert (localAddress tag opOrStatus : Byte) (payload : List Byte) :
    s.classifyBranch b ⟨3, localAddress, tag, opOrStatus, payload⟩ =
      s.classifyBranch b ⟨3, localAddress, 0, 0, payload⟩ := rfl

/-- The counted bad frame, and the fault at the limit (R124, R125, R112). -/
theorem State.takeBad_eq (s : State) (b : Fin 4) :
    let counted := s.setBranch b { (s.branch b).bump .checkErrors with consecutive := (s.branch b).consecutive + 1 }
    s.takeBad b =
      if (s.branch b).consecutive + 1 = (s.branch b).settings.faultLimit then counted.faultBranch b else counted := by
  intro counted
  rw [State.takeBad, State.branch_setBranch_self]
  rfl

end Content

/-- Settles O38: content is read back as its fields, with the profile that the header chooses. -/
theorem branchContentIsBadOrActsAsItsFields : Obligations.BranchContentIsBadOrActsAsItsFields := by
  constructor
  · intro s b high works counted ended after
    have bad : s.receiveBranch b none = after := by
      rw [State.receiveBranch_of_none works, State.takeBad_eq]
      rfl
    refine ⟨fun content other => ?_, fun localAddress tag status payload long => ?_, fun localAddress payload long => ?_⟩
    · rw [exec_branchFrame, State.running_of_high high, readBranch_eq_none other, bad]
    · rw [exec_branchResponse, State.running_of_high high, goodFrame_of_lt long, bad]
    · rw [exec_alert, State.running_of_high high, goodFrame_of_lt long, bad]
  · intro s b kind localAddress tag opOrStatus payload p high works fits checks body content
    obtain rfl := BranchPort.checksWith_iff.1 checks
    have read : readBranch (s.branch b) s.profiles content = some ⟨kind, localAddress, tag, opOrStatus, payload⟩ :=
      readBranch_eq_some.2 ⟨fits, rfl⟩
    rw [exec_branchFrame, State.running_of_high high, read, State.receiveBranch_of_some works]
    refine ⟨?_, ?_, fun response alert => congrArg _ (State.classifyBranch_of_unknown response alert)⟩
    · rintro rfl
      rw [exec_branchResponse, State.running_of_high high, State.receiveBranch_of_good works fits]
    · rintro rfl
      rw [exec_alert, State.running_of_high high, State.receiveBranch_of_good works fits, State.classifyBranch_alert]

/-! ### Responses -/

section Response

variable {s : State} {b : Fin 4} {f : BranchFrame}

theorem State.classifyBranch_of_high_tag (response : f.kind = 2) (high : 15 < f.tag.toNat) :
    s.classifyBranch b f = s.bumpBranch b .unexpected := by
  have unnamed : index? 16 f.tag = none := index?_eq_none.2 high
  simp only [State.classifyBranch, response, if_true, unnamed, ite_self]

theorem State.classifyBranch_of_response {n : Fin 16} (legal : localAddressOk f.localAddress = true)
    (response : f.kind = 2) (names : f.tag.toNat = n.val) :
    s.classifyBranch b f = s.takeResponse b f.localAddress n f.opOrStatus f.payload := by
  have named : index? 16 f.tag = some n := index?_eq_some.2 names
  simp [State.classifyBranch, legal, response, named]

variable {localAddress status : Byte} {payload : List Byte} {n : Fin 16}

theorem State.takeResponse_of_late (unused : ∀ p a, (s.branch b).tag n ≠ .inUse p a) :
    s.takeResponse b localAddress n status payload = s.bumpBranch b .late := by
  unfold State.takeResponse
  split
  next p a in_use => exact absurd in_use (unused p a)
  all_goals rfl

variable {p : Fin 4} {a : Byte} (in_use : (s.branch b).tag n = .inUse p a)
include in_use

theorem State.takeResponse_of_mismatched (other : localAddress ≠ a) :
    s.takeResponse b localAddress n status payload = s.bumpBranch b .mismatched := by
  simp only [State.takeResponse, in_use, if_neg other]

theorem State.takeResponse_of_matched {slot : Fin 32} {r : Record} {d : Option Time} (same : localAddress = a)
    (live : s.record slot = some r) (on : r.snapshot.branch = b) (issued : r.state = .issued n d)
    (only : ∀ i q e, s.record i = some q → q.snapshot.branch = b → q.state = .issued n e → i = slot) :
    s.takeResponse b localAddress n status payload =
      ((s.bumpBranch b .matchedResponses).setTag b n .free).takeAnswer slot r status payload := by
  simp only [State.takeResponse, in_use, if_pos same, State.holderOf_of_only live on issued only, live]

end Response

/-- Settles O39: the frame's own tests, then those of the tag it names. -/
theorem responsesAreMatchedToTheirTags : Obligations.ResponsesAreMatchedToTheirTags := by
  intro s b localAddress tag status payload high works fits good answers
  have classified : exec (.branchResponse b localAddress tag status payload) s =
      .next (good.classifyBranch b ⟨2, localAddress, tag, status, payload⟩) := by
    rw [exec_branchResponse, State.running_of_high high, State.receiveBranch_of_good works fits]
    rfl
  have tags (n : Fin 16) : (good.branch b).tag n = (s.branch b).tag n := by
    rw [State.branch_setBranch_self]
    rfl
  refine ⟨fun misfit => classified.trans (congrArg _ ?_), fun n positive low names => ?_⟩
  · rcases misfit with zero | above | high_tag
    · exact State.classifyBranch_of_bad_address (.inl zero) _ _
    · exact State.classifyBranch_of_bad_address (.inr above) _ _
    · exact State.classifyBranch_of_high_tag rfl high_tag
  · have legal : localAddressOk localAddress = true := localAddressOk_iff.2 ⟨one_le_toNat_iff.2 positive, low⟩
    rw [State.classifyBranch_of_response legal rfl names] at classified
    refine ⟨fun unused => ?_, fun p a in_use => ⟨fun other => ?_, fun slot r d same live on issued only => ?_⟩⟩
    · rwa [State.takeResponse_of_late fun p a => tags n ▸ unused p a] at classified
    · rwa [State.takeResponse_of_mismatched ((tags n).trans in_use) other] at classified
    · rwa [State.takeResponse_of_matched ((tags n).trans in_use) same live on issued only] at classified

/-! ### The counters of the trunk -/

/-- A group of counters with one of them raised (R128, R156). -/
theorem look_put_satInc {k : Nat} (counters : Table (BitVec 32) k) (i n : Fin k) :
    look (put counters i (satInc (look counters i))) n =
      if n ≠ i then look counters n
      else if look counters n = 0xFFFFFFFF then 0xFFFFFFFF else look counters n + 1 := by
  rw [look_put, satInc_eq]
  by_cases same : i = n
  · subst same
    rw [if_pos rfl, if_neg (not_not_intro rfl)]
    rfl
  · rw [if_neg same, if_pos (Ne.symm same)]

/-- A receive counter of the trunk: good frames and check errors (R145). -/
abbrev TrunkReceive (n : Fin 16) : Prop := n ∈ ([0, 1] : List (Fin 16))

/-- The receive counters of the trunk stand as they were. -/
def State.KeepsTrunkReceive (s t : State) : Prop :=
  ∀ n, TrunkReceive n → look t.trunkCounters n = look s.trunkCounters n

namespace State.KeepsTrunkReceive

variable {s t : State}

theorem of_eq (same : t.trunkCounters = s.trunkCounters) : s.KeepsTrunkReceive t := fun n _ => by rw [same]

theorem bumpTrunk (keeps : s.KeepsTrunkReceive t) {c : TrunkCounter} (other : ¬TrunkReceive c.index) :
    s.KeepsTrunkReceive (t.bumpTrunk c) := by
  intro n receive
  have apart : c.index ≠ n := fun same => other (same ▸ receive)
  exact (look_put_ne apart).trans (keeps n receive)

theorem joinOrDrop (keeps : s.KeepsTrunkReceive t) (f : TrunkFrame) : s.KeepsTrunkReceive (t.joinOrDrop f) := by
  rcases t.joinOrDrop_cases f with ⟨-, joined⟩ | ⟨-, dropped⟩
  · exact joined ▸ keeps
  · exact dropped ▸ keeps.bumpTrunk (by decide)

theorem admission (q : TrunkRequest) : s.KeepsTrunkReceive (s.admission q) := by
  unfold State.admission
  split
  next status _ =>
    refine State.KeepsTrunkReceive.joinOrDrop (bumpTrunk (of_eq rfl) ?_) _
    cases status <;> decide
  next =>
    refine of_eq ?_
    unfold State.createRecord
    split <;> simp

theorem takeManage (address : Address) (q : ManageRequest) : s.KeepsTrunkReceive (s.takeManage address q) := by
  unfold State.takeManage State.enterManage
  split
  next =>
    split
    next =>
      refine of_eq ?_
      dsimp only
      split <;> simp
    next => exact (of_eq rfl).joinOrDrop _
  next => exact (of_eq rfl).bumpTrunk (by decide)

theorem takeHold (address : Address) : s.KeepsTrunkReceive (s.takeHold address) := by
  unfold State.takeHold
  split <;> exact of_eq rfl

theorem takeRelease (address : Address) : s.KeepsTrunkReceive (s.takeRelease address) := by
  unfold State.takeRelease
  split <;> exact of_eq rfl

theorem classifyTrunk (f : TrunkFrame) : s.KeepsTrunkReceive (s.classifyTrunk f) := by
  unfold State.classifyTrunk
  repeat' split
  · exact admission _
  · exact takeManage _ _
  · exact takeHold _
  · exact takeRelease _
  · exact (of_eq rfl).bumpTrunk (by decide)

/-- Exactly one receive counter of the trunk has been raised. -/
theorem raised {c : TrunkCounter} (keeps : (s.bumpTrunk c).KeepsTrunkReceive t) (receive : TrunkReceive c.index) :
    ∃ n ∈ ([0, 1] : List (Fin 16)), look t.trunkCounters n = satInc (look s.trunkCounters n) ∧
      ∀ m ∈ ([0, 1] : List (Fin 16)), m ≠ n → look t.trunkCounters m = look s.trunkCounters m :=
  ⟨c.index, receive, (keeps _ receive).trans (look_put_self _ _ _),
    fun m receive_m other => (keeps m receive_m).trans (look_put_ne other.symm)⟩

/-- A frame given by its fields raises good frames, or check errors where it is too long. -/
theorem receiveGood (payload : List Byte) {act : State → State} (keeps : ∀ u : State, u.KeepsTrunkReceive (act u)) :
    ∃ c : TrunkCounter, TrunkReceive c.index ∧ (s.bumpTrunk c).KeepsTrunkReceive (s.receiveGood payload act) := by
  unfold State.receiveGood
  split
  · exact ⟨.goodFrames, by decide, keeps _⟩
  · exact ⟨.checkErrors, by decide, of_eq rfl⟩

theorem receiveTrunk (content : List Byte) :
    ∃ c : TrunkCounter, TrunkReceive c.index ∧ (s.bumpTrunk c).KeepsTrunkReceive (s.receiveTrunk content) := by
  unfold State.receiveTrunk
  split
  · exact ⟨.goodFrames, by decide, classifyTrunk _⟩
  · exact ⟨.checkErrors, by decide, of_eq rfl⟩

end State.KeepsTrunkReceive

/-! ### The counters of a branch -/

section PortCounters

variable (s : State) (d : Fin 4)

/-- A port replaced by one with the same counters moves no counter. -/
theorem State.counters_setBranch {b : Fin 4} {p : BranchPort} (same : p.counters = (s.branch b).counters) :
    ((s.setBranch b p).branch d).counters = (s.branch d).counters := by
  rw [State.branch_setBranch]
  split
  next here => rw [← here, same]
  next => rfl

theorem State.counters_of_branches {t : State} (same : t.branches = s.branches) :
    (t.branch d).counters = (s.branch d).counters := by
  rw [State.branch, State.branch, same]

theorem State.counters_setBranchState (b : Fin 4) (state : BranchState) :
    ((s.setBranchState b state).branch d).counters = (s.branch d).counters :=
  s.counters_setBranch d rfl

theorem BranchPort.counters_coolTag (now : Time) (p : BranchPort) (n : Fin 16) : (p.coolTag now n).counters = p.counters := by
  rw [BranchPort.coolTag_eq_cooled]
  rfl

theorem State.counters_undo (slot : Fin 32) (r : Record) :
    ((s.undo slot r).branch d).counters = (s.branch d).counters := by
  unfold State.undo
  split
  · exact s.counters_setBranch d rfl
  · exact s.counters_setBranch d (BranchPort.counters_coolTag _ _ _)
  · rfl
  · rfl

theorem State.counters_checkDrained (b : Fin 4) : ((s.checkDrained b).branch d).counters = (s.branch d).counters := by
  unfold State.checkDrained
  split
  · exact (State.counters_of_branches _ d (by simp)).trans (s.counters_setBranchState d b .disabled)
  · rfl

theorem State.counters_endTransaction (slot : Fin 32) (r : Record) (e : Ending) :
    ((s.endTransaction slot r e).branch d).counters = (s.branch d).counters :=
  (State.counters_checkDrained _ d _).trans (State.counters_of_branches _ d (by simp))

theorem State.counters_queueRecord (slot : Fin 32) (r : Record) :
    ((s.queueRecord slot r).branch d).counters = (s.branch d).counters := by
  refine State.counters_setBranch (s.setRecord slot _) d ?_
  unfold BranchPort.enqueue
  split <;> rfl

theorem State.counters_takeUp (slot : Fin 32) (r : Record) (step : Step) :
    ((s.takeUp slot r step).branch d).counters = (s.branch d).counters := by
  cases step with
  | issue => exact s.counters_queueRecord d slot r
  | await => exact s.counters_queueRecord d slot _
  | pause => rfl

theorem State.counters_advance (slot : Fin 32) (r : Record) :
    ((s.advance slot r).branch d).counters = (s.branch d).counters := by
  unfold State.advance
  split
  · exact s.counters_takeUp d slot _ _
  · exact s.counters_endTransaction d slot r _

theorem State.counters_takeAnswer (slot : Fin 32) (r : Record) (status : Byte) (payload : List Byte) :
    ((s.takeAnswer slot r status payload).branch d).counters = (s.branch d).counters := by
  have reported : ((s.reportMatched r.snapshot).branch d).counters = (s.branch d).counters :=
    State.counters_of_branches s d (by simp)
  unfold State.takeAnswer
  dsimp only
  split
  · exact (State.counters_advance _ d slot _).trans reported
  · exact reported
  · exact (State.counters_endTransaction _ d slot r _).trans reported

theorem State.counters_endSlotOf (b : Fin 4) (e : Ending) (slot : Fin 32) :
    ((State.endSlotOf b e s slot).branch d).counters = (s.branch d).counters := by
  unfold State.endSlotOf
  split
  next r _ =>
    split
    · exact (State.counters_of_branches _ d (by simp)).trans (s.counters_undo d slot r)
    · rfl
  next => rfl

theorem State.counters_endBranchRecords (b : Fin 4) (e : Ending) :
    ((s.endBranchRecords b e).branch d).counters = (s.branch d).counters :=
  State.foldl_keeps (fun u => (u.branch d).counters) _ (fun u slot => u.counters_endSlotOf d b e slot) _ s

theorem State.counters_faultBranch (b : Fin 4) : ((s.faultBranch b).branch d).counters = (s.branch d).counters :=
  calc ((s.faultBranch b).branch d).counters
    _ = (((s.endBranchRecords b .branchFault).setBranchState b .faulted).branch d).counters :=
        State.counters_of_branches _ d (by simp [State.faultBranch])
    _ = ((s.endBranchRecords b .branchFault).branch d).counters := State.counters_setBranchState _ d b _
    _ = (s.branch d).counters := s.counters_endBranchRecords d b _

end PortCounters

/-- The seven receive counters of a branch (R128). -/
abbrev BranchReceive (n : Fin 10) : Prop := n ∈ ([1, 2, 3, 4, 6, 8, 9] : List (Fin 10))

/-- From `s` to `t` exactly one receive counter of a branch has been raised, by one. -/
def State.RaisesOne (s t : State) (b : Fin 4) : Prop :=
  ∃ c : BranchCounter, BranchReceive c.index ∧
    ∀ n, BranchReceive n → look (t.branch b).counters n = look ((s.branch b).bump c).counters n

namespace State.RaisesOne

variable {s t u : State} {b : Fin 4}

theorem bumpBranch (c : BranchCounter) (receive : BranchReceive c.index) : s.RaisesOne (s.bumpBranch b c) b :=
  ⟨c, receive, fun n _ => by rw [State.bumpBranch, State.branch_setBranch_self]⟩

/-- What raises no receive counter afterwards. -/
theorem trans (raises : s.RaisesOne t b)
    (keeps : ∀ n, BranchReceive n → look (u.branch b).counters n = look (t.branch b).counters n) : s.RaisesOne u b := by
  obtain ⟨c, receive, raised⟩ := raises
  exact ⟨c, receive, fun n at_n => (keeps n at_n).trans (raised n at_n)⟩

theorem of_counters (raises : s.RaisesOne t b) (same : (u.branch b).counters = (t.branch b).counters) : s.RaisesOne u b :=
  raises.trans fun n _ => by rw [same]

theorem takeResponse (localAddress : Byte) (n : Fin 16) (status : Byte) (payload : List Byte) :
    s.RaisesOne (s.takeResponse b localAddress n status payload) b := by
  unfold State.takeResponse
  split
  next =>
    split
    next =>
      have matched : s.RaisesOne ((s.bumpBranch b .matchedResponses).setTag b n .free) b :=
        (bumpBranch .matchedResponses (by decide)).of_counters (State.counters_setBranch _ b rfl)
      dsimp only
      repeat' split
      · exact matched.of_counters (State.counters_takeAnswer _ b _ _ _ _)
      · exact matched
      · exact matched
    next => exact bumpBranch .mismatched (by decide)
  all_goals exact bumpBranch .late (by decide)

/-- The alert path raises the count of suppressed alerts, which is none of the seven. -/
theorem judgeAlert (raises : s.RaisesOne t b) (localAddress : Byte) (payload : List Byte) (severity : Fin 8)
    (address : Option Address) : s.RaisesOne (t.judgeAlert b localAddress payload severity address) b := by
  unfold State.judgeAlert
  split
  next =>
    refine raises.trans fun n receive => ?_
    rw [State.bumpBranch, State.branch_setBranch_self]
    refine look_put_ne ?_
    rintro rfl
    exact absurd receive (by decide)
  next => exact raises.of_counters (State.counters_of_branches _ b (by simp))

theorem alertPath (raises : s.RaisesOne t b) (localAddress : Byte) (payload : List Byte) :
    s.RaisesOne (t.alertPath b localAddress payload) b := by
  cases found : t.reverseLookup b localAddress with
  | none => exact State.alertPath_of_unmapped found payload ▸ raises.judgeAlert _ _ _ _
  | some entry => exact State.alertPath_of_mapped found payload ▸ raises.judgeAlert _ _ _ _

theorem classifyBranch (f : BranchFrame) : s.RaisesOne (s.classifyBranch b f) b := by
  unfold State.classifyBranch
  repeat' split
  · exact bumpBranch .unexpected (by decide)
  · exact takeResponse _ _ _ _
  · exact bumpBranch .unexpected (by decide)
  · exact (bumpBranch .alertsReceived (by decide)).alertPath _ _
  · exact bumpBranch .unexpected (by decide)

theorem takeBad (s : State) (b : Fin 4) : s.RaisesOne (s.takeBad b) b := by
  have counted : s.RaisesOne
      (s.setBranch b { (s.branch b).bump .checkErrors with consecutive := (s.branch b).consecutive + 1 }) b :=
    ⟨.checkErrors, by decide, fun n _ => by rw [State.branch_setBranch_self]⟩
  rw [State.takeBad_eq]
  split
  · exact counted.of_counters (State.counters_faultBranch _ b b)
  · exact counted

theorem receiveBranch (s : State) (b : Fin 4) (frame : Option BranchFrame) : s.RaisesOne (s.receiveBranch b frame) b := by
  by_cases works : (s.branch b).state.working = true
  · cases frame with
    | none => exact State.receiveBranch_of_none works ▸ takeBad s b
    | some f =>
      obtain ⟨c, receive, raised⟩ := classifyBranch (s := s.markGood b) (b := b) f
      rw [State.receiveBranch_of_some works]
      refine ⟨c, receive, fun n at_n => (raised n at_n).trans ?_⟩
      rw [State.markGood, State.branch_setBranch_self]
      rfl
  · rw [State.receiveBranch_of_closed works]
    exact bumpBranch .framesIgnored (by decide)

/-- The statement's form: the counter raised, and the other receive counters as they were. -/
theorem exists_raised (raises : s.RaisesOne t b) :
    ∃ n ∈ ([1, 2, 3, 4, 6, 8, 9] : List (Fin 10)),
      look (t.branch b).counters n = satInc (look (s.branch b).counters n) ∧
      ∀ m ∈ ([1, 2, 3, 4, 6, 8, 9] : List (Fin 10)), m ≠ n →
        look (t.branch b).counters m = look (s.branch b).counters m := by
  obtain ⟨c, receive, raised⟩ := raises
  exact ⟨c.index, receive, (raised _ receive).trans (look_put_self _ _ _),
    fun m receive_m other => (raised m receive_m).trans (look_put_ne other.symm)⟩

end State.RaisesOne

/-- Settles O58: the counting of one frame, and that what follows it raises no other receive counter. -/
theorem eachFrameRaisesOneReceiveCounter : Obligations.EachFrameRaisesOneReceiveCounter := by
  refine ⟨⟨fun s c => ⟨rfl, fun n => ?trunk⟩, ?branch⟩, fun c s t high next frame => ?trunkFrames,
    fun c s t b high next frame => ?branchFrames⟩
  case trunk => exact look_put_satInc _ _ _
  case branch =>
    intro s b c t
    have port : t.branch b = (s.branch b).bump c := State.branch_setBranch_self _ _ _
    refine ⟨rfl, fun d other => State.branch_setBranch_of_ne other _ _, ?_, fun n => ?_⟩
    · rw [port]
      rfl
    · rw [port]
      exact look_put_satInc _ _ _
  case trunkFrames =>
    obtain ⟨k, receive, keeps⟩ : ∃ k : TrunkCounter, TrunkReceive k.index ∧ (s.bumpTrunk k).KeepsTrunkReceive t := by
      rcases frame with ⟨content, rfl⟩ | ⟨flags, address, tag, op, payload, rfl⟩ | ⟨address, tag, code, payload, rfl⟩ |
        ⟨address, rfl⟩ | ⟨address, rfl⟩
      · rw [exec_trunkFrame_of_high high] at next
        exact Host.Outcome.next.inj next ▸ State.KeepsTrunkReceive.receiveTrunk content
      · rw [exec_request, State.running_of_high high] at next
        exact Host.Outcome.next.inj next ▸ State.KeepsTrunkReceive.receiveGood _ fun u => .admission _
      · rw [exec_manage, State.running_of_high high] at next
        exact Host.Outcome.next.inj next ▸ State.KeepsTrunkReceive.receiveGood _ fun u => .takeManage _ _
      · rw [exec_hold_of_high high] at next
        exact Host.Outcome.next.inj next ▸ ⟨.goodFrames, by decide, .takeHold _⟩
      · rw [exec_release_of_high high] at next
        exact Host.Outcome.next.inj next ▸ ⟨.goodFrames, by decide, .takeRelease _⟩
    exact keeps.raised receive
  case branchFrames =>
    have raises : s.RaisesOne t b := by
      rcases frame with ⟨content, rfl⟩ | ⟨localAddress, tag, status, payload, rfl⟩ | ⟨localAddress, payload, rfl⟩
      · rw [exec_branchFrame, State.running_of_high high] at next
        exact Host.Outcome.next.inj next ▸ State.RaisesOne.receiveBranch s b _
      · rw [exec_branchResponse, State.running_of_high high] at next
        exact Host.Outcome.next.inj next ▸ State.RaisesOne.receiveBranch s b _
      · rw [exec_alert, State.running_of_high high] at next
        exact Host.Outcome.next.inj next ▸ State.RaisesOne.receiveBranch s b _
    exact raises.exists_raised

end Sys2Proof.Machine
end

section
/-! Branch states, Issue Queues and tags in agreement with the records (sections 6.1, 7.2, 7.3, 7.5): the two invariants of
the places, what they read, and what becomes of them when a record gives up its place or takes one. -/

namespace Sys2Proof.Machine

/-! ### The invariants of the ports -/

/-- The two invariants that tie the places of a port to the records that hold them. -/
abbrev State.PlacesSound (s : State) : Prop := s.IssueQueuesSound ∧ s.TagsSound

/-- The invariants of the Branch Ports together. -/
abbrev State.PortsSound (s : State) : Prop := s.BranchStatesSound ∧ s.PlacesSound

theorem State.issueQueuesSound_iff {s : State} :
    s.IssueQueuesSound ↔ ∀ b : Fin 4, (s.branch b).issueQueue.Nodup ∧ ∀ i : Fin 32,
      (i ∈ (s.branch b).urgentQueue ↔
        ∃ r, s.record i = some r ∧ r.snapshot.branch = b ∧ r.isQueued = true ∧ r.urgent = true) ∧
      (i ∈ (s.branch b).normalQueue ↔
        ∃ r, s.record i = some r ∧ r.snapshot.branch = b ∧ r.isQueued = true ∧ r.urgent = false) := by
  unfold State.IssueQueuesSound
  simp only [State.recordIs_iff, Bool.and_eq_true, beq_iff_eq, Bool.not_eq_true', and_assoc]

theorem State.one_le_liveOn_iff {s : State} {b : Fin 4} :
    1 ≤ s.liveOn b ↔ ∃ i r, s.record i = some r ∧ r.snapshot.branch = b := by
  rw [Nat.one_le_iff_ne_zero, ne_eq, State.liveOn_eq_zero]
  push Not
  rfl

/-- Every live record stands on a branch that works. -/
abbrev State.LiveWorks (s : State) : Prop :=
  ∀ i r, s.record i = some r → (s.branch r.snapshot.branch).state.working = true

/-- A branch that is DRAINING has a live record. -/
abbrev State.DrainsSome (s : State) (b : Fin 4) : Prop :=
  (s.branch b).state.isDraining = true → ∃ i r, s.record i = some r ∧ r.snapshot.branch = b

/-- A DISABLED or FAULTED branch has no live record, a DRAINING one has some. -/
theorem State.branchStatesSound_iff {s : State} : s.BranchStatesSound ↔ s.LiveWorks ∧ ∀ b, s.DrainsSome b := by
  constructor
  · intro sound
    refine ⟨fun i r live => ?_, fun b draining => State.one_le_liveOn_iff.1 ((sound b).2 draining)⟩
    by_contra closed
    exact State.liveOn_eq_zero.1 ((sound _).1 (Bool.eq_false_of_not_eq_true closed)) i r live rfl
  · rintro ⟨works, drains⟩ b
    refine ⟨fun closed => State.liveOn_eq_zero.2 fun i r live on_b => ?_,
      fun draining => State.one_le_liveOn_iff.2 (drains b draining)⟩
    subst on_b
    exact nomatch closed.symm.trans (works i r live)

/-! ### What the invariants read -/

/-- Two records play the same part for the ports: the same snapshot and class, the same place. -/
structure Record.SamePlace (r q : Record) : Prop where
  snapshot : q.snapshot = r.snapshot
  urgent : q.urgent = r.urgent
  queued : q.isQueued = r.isQueued
  issued : q.isIssued = r.isIssued
  tag : ∀ n, q.holdsTag n = r.holdsTag n

theorem Record.SamePlace.refl (r : Record) : r.SamePlace r := ⟨rfl, rfl, rfl, rfl, fun _ => rfl⟩

/-- Two ports hold the same places: a tag may differ where it is IN_USE in neither. -/
structure BranchPort.SamePlaces (p q : BranchPort) : Prop where
  urgent : q.urgentQueue = p.urgentQueue
  normal : q.normalQueue = p.normalQueue
  tag : ∀ n, q.tag n = p.tag n ∨ ((p.tag n).isInUse = false ∧ (q.tag n).isInUse = false)

theorem BranchPort.SamePlaces.refl (p : BranchPort) : p.SamePlaces p := ⟨rfl, rfl, fun _ => .inl rfl⟩

/-- The places stay sound where records and ports keep them, and no window has come below the exchanges in progress. -/
theorem State.PlacesSound.congr {s t : State} (sound : s.PlacesSound)
    (records : ∀ i, Option.Rel Record.SamePlace (s.record i) (t.record i))
    (ports : ∀ b, (s.branch b).SamePlaces (t.branch b)) (windows : ∀ b, s.issuedOn b ≤ (t.branch b).settings.window) :
    t.PlacesSound := by
  have same {p q : Record → Bool} (keeps : ∀ r r' : Record, r.SamePlace r' → p r' = q r) :
      t.recordIs p = s.recordIs q := by
    funext i
    rw [State.recordIs_eq_any, State.recordIs_eq_any]
    have rel := records i
    generalize s.record i = before, t.record i = after at rel ⊢
    cases rel with
    | none => rfl
    | some place => exact keeps _ _ place
  obtain ⟨queues, tags⟩ := sound
  constructor
  · intro b
    obtain ⟨nodup, members⟩ := queues b
    have port := ports b
    rw [BranchPort.issueQueue, port.urgent, port.normal]
    refine ⟨nodup, fun i => ?_⟩
    rw [same fun r q place => by rw [place.snapshot, place.queued, place.urgent],
      same fun r q place => by rw [place.snapshot, place.queued, place.urgent]]
    exact members i
  · intro b
    obtain ⟨-, each⟩ := tags b
    have port := ports b
    constructor
    · rw [State.issuedOn, same fun r q place => by rw [place.snapshot, place.issued]]
      exact windows b
    · intro n
      obtain ⟨held, single⟩ := each n
      constructor
      · intro i q live on_b holds
        have place_i := records i
        rw [Option.mem_def.1 live] at place_i
        generalize before : s.record i = old at place_i
        cases place_i with
        | @some r _ place =>
          rw [place.snapshot] at on_b ⊢
          rw [place.tag] at holds
          have in_use := held i r before on_b holds
          rcases port.tag n with kept | ⟨unused, -⟩
          · rw [kept, in_use]
          · simp [in_use, TagRecord.isInUse] at unused
      · intro in_use
        rcases port.tag n with kept | ⟨-, unused⟩
        · rw [same fun r q place => by rw [place.snapshot, place.tag]]
          exact single (kept ▸ in_use)
        · exact nomatch unused.symm.trans in_use

theorem samePlace_of_eq {x y : Option Record} (same : y = x) : Option.Rel Record.SamePlace x y := by
  subst same
  cases y with
  | none => exact .none
  | some r => exact .some (.refl r)

theorem State.PlacesSound.of_eq {s t : State} (sound : s.PlacesSound) (records : t.records = s.records)
    (branches : t.branches = s.branches) : t.PlacesSound := by
  have port (b : Fin 4) : t.branch b = s.branch b := by rw [State.branch, branches]; rfl
  refine sound.congr (fun i => samePlace_of_eq (by rw [State.record, records]; rfl)) (fun b => ?_) fun b => ?_
  · rw [port]
    exact .refl _
  · rw [port]
    exact (sound.2 b).1

theorem State.BranchStatesSound.congr {s t : State} (sound : s.BranchStatesSound)
    (records : ∀ i, (t.record i).map (·.snapshot.branch) = (s.record i).map (·.snapshot.branch))
    (states : ∀ b, (t.branch b).state = (s.branch b).state) : t.BranchStatesSound := by
  have live (b : Fin 4) : t.liveOn b = s.liveOn b := by
    unfold State.liveOn
    congr 1
    funext i
    have here := congrArg (Option.any (· == b)) (records i)
    rwa [Option.any_map, Option.any_map, ← State.recordIs_eq_any, ← State.recordIs_eq_any] at here
  intro b
  rw [live, states]
  exact sound b

theorem State.PortsSound.of_eq {s t : State} (sound : s.PortsSound) (records : t.records = s.records)
    (branches : t.branches = s.branches) : t.PortsSound := by
  refine ⟨State.BranchStatesSound.congr sound.1 (fun i => ?_) fun b => ?_, sound.2.of_eq records branches⟩
  · rw [State.record, records]
    rfl
  · rw [State.branch, branches]
    rfl

/-- A port may change where its places stay, its window does not come below the exchanges in progress, it works on where it
worked, and it does not begin to drain. -/
theorem State.PortsSound.setBranch {s : State} (sound : s.PortsSound) {b : Fin 4} {p : BranchPort}
    (places : (s.branch b).SamePlaces p) (window : s.issuedOn b ≤ p.settings.window)
    (works : (s.branch b).state.working = true → p.state.working = true)
    (drains : p.state.isDraining = true → (s.branch b).state.isDraining = true) : (s.setBranch b p).PortsSound := by
  obtain ⟨states, sound⟩ := sound
  refine ⟨fun d => ?states, sound.congr (fun i => samePlace_of_eq rfl) (fun d => ?places) fun d => ?windows⟩
  all_goals
    rw [State.branch_setBranch]
    split
  case states.isTrue here =>
    subst here
    refine ⟨fun closed => (states b).1 ?_, fun draining => (states b).2 (drains draining)⟩
    exact Bool.eq_false_of_not_eq_true fun worked => nomatch closed.symm.trans (works worked)
  case states.isFalse => exact states d
  case places.isTrue here => exact here ▸ places
  case places.isFalse => exact .refl _
  case windows.isTrue here => exact here ▸ window
  case windows.isFalse => exact (sound.2 d).1

end Sys2Proof.Machine
end

section
/-! How a record gives up its place at a port and how it takes one (sections 6.2, 7.4 and 7.5): it leaves the Issue Queue or
its tag, and it joins a queue, takes a tag, or waits for a timer. -/

namespace Sys2Proof.Machine

theorem countWhere_eq_card {n : Nat} (p : Fin n → Bool) : countWhere p = (Finset.univ.filter fun i => p i = true).card := by
  rw [countWhere_eq_sum, Finset.card_filter]
  refine Finset.sum_congr rfl fun i _ => ?_
  cases p i <;> rfl

/-- Where a test counts one index, it accepts no two. -/
theorem eq_of_countWhere_eq_one {n : Nat} {p : Fin n → Bool} (one : countWhere p = 1) {i j : Fin n} (at_i : p i = true)
    (at_j : p j = true) : i = j := by
  rw [countWhere_eq_card] at one
  exact Finset.card_le_one.1 one.le i (by simpa using at_i) j (by simpa using at_j)

/-! ### Giving up a place -/

/-- `u` is `s` where the record `r` of a slot has given up its place: out of the Issue Queue, its tag no longer IN_USE. -/
structure State.Unplaced (s u : State) (slot : Fin 32) (r : Record) : Prop where
  records : u.records = s.records
  states : ∀ d, (u.branch d).state = (s.branch d).state
  other : ∀ d, d ≠ r.snapshot.branch → u.branch d = s.branch d
  window : (u.branch r.snapshot.branch).settings.window = (s.branch r.snapshot.branch).settings.window
  urgent : (u.branch r.snapshot.branch).urgentQueue =
    (s.branch r.snapshot.branch).urgentQueue.filter fun i => !(i == slot && r.isQueued)
  normal : (u.branch r.snapshot.branch).normalQueue =
    (s.branch r.snapshot.branch).normalQueue.filter fun i => !(i == slot && r.isQueued)
  kept : ∀ n, r.holdsTag n = false →
    (u.branch r.snapshot.branch).tag n = (s.branch r.snapshot.branch).tag n
  given : ∀ n, r.holdsTag n = true → ((u.branch r.snapshot.branch).tag n).isInUse = false

/-- The queues without a record that has left them. -/
theorem State.IssueQueuesSound.unplace {s u : State} (sound : s.IssueQueuesSound) {slot : Fin 32} {r : Record}
    (live : s.record slot = some r) (unplaced : s.Unplaced u slot r) :
    (u.setRecord slot none).IssueQueuesSound := by
  rw [State.issueQueuesSound_iff] at sound ⊢
  intro d
  obtain ⟨nodup, members⟩ := sound d
  have vacated (i : Fin 32) : (u.setRecord slot none).record i = if slot = i then none else s.record i := by
    rw [State.record_setRecord]
    simp only [State.record, unplaced.records]
  change (u.branch d).issueQueue.Nodup ∧ ∀ i, (i ∈ (u.branch d).urgentQueue ↔ _) ∧ (i ∈ (u.branch d).normalQueue ↔ _)
  by_cases on_d : d = r.snapshot.branch
  · subst on_d
    rw [BranchPort.issueQueue, unplaced.urgent, unplaced.normal, ← List.filter_append]
    refine ⟨nodup.filter _, fun i => ?_⟩
    simp only [List.mem_filter, members i, vacated]
    by_cases here : slot = i
    · subst here
      simp +contextual [live]
    · simp [here, Ne.symm here]
  · rw [unplaced.other d on_d]
    refine ⟨nodup, fun i => ?_⟩
    rw [(members i).1, (members i).2, vacated]
    by_cases here : slot = i
    · subst here
      simp [live, Ne.symm on_d]
    · simp [here]

/-- The tags without that of a record that has given it up. -/
theorem State.TagsSound.unplace {s u : State} (sound : s.TagsSound) {slot : Fin 32} {r : Record}
    (live : s.record slot = some r) (unplaced : s.Unplaced u slot r) : (u.setRecord slot none).TagsSound := by
  have counted (p : Record → Bool) :
      countWhere ((u.setRecord slot none).recordIs p) + (p r).toNat = countWhere (s.recordIs p) := by
    have count := u.countWhere_setRecord slot none p
    have same : u.recordIs p = s.recordIs p := by
      funext i
      simp only [State.recordIs, State.record, unplaced.records]
    rwa [same, show u.record slot = some r by rw [State.record, unplaced.records]; exact live] at count
  intro d
  obtain ⟨issued, each⟩ := sound d
  have window : (u.branch d).settings.window = (s.branch d).settings.window := by
    by_cases on_d : d = r.snapshot.branch
    · subst on_d
      exact unplaced.window
    · rw [unplaced.other d on_d]
  refine ⟨?_, fun n => ?_⟩
  · have fewer := counted fun r => r.snapshot.branch == d && r.isIssued
    change countWhere _ ≤ (u.branch d).settings.window
    rw [window]
    exact (Nat.le_of_add_right_le fewer.le).trans issued
  obtain ⟨held, single⟩ := each n
  change (∀ i q, _ → _ → _ → (u.branch d).tag n = _) ∧ (((u.branch d).tag n).isInUse = true → _)
  refine ⟨fun i q at_i on_d holds => ?_, fun in_use => ?_⟩
  · rw [Option.mem_def, State.record_setRecord] at at_i
    split at at_i
    next => cases at_i
    next away =>
      have at_i : s.record i = some q := by rw [State.record, ← unplaced.records]; exact at_i
      have in_use := held i q at_i on_d holds
      by_cases here : d = r.snapshot.branch
      · subst here
        rw [unplaced.kept n, in_use]
        by_contra both
        have one := single (by rw [in_use]; rfl)
        refine away (eq_of_countWhere_eq_one one ?_ ?_)
        · exact State.recordIs_iff.2 ⟨r, live, by simpa using both⟩
        · exact State.recordIs_iff.2 ⟨q, at_i, by simp [on_d, holds]⟩
      · rw [unplaced.other d here, in_use]
  · have count := counted fun r => r.snapshot.branch == d && r.holdsTag n
    have before : ((s.branch d).tag n).isInUse = true ∧ (r.snapshot.branch == d && r.holdsTag n) = false := by
      by_cases here : d = r.snapshot.branch
      · subst here
        cases holds : r.holdsTag n with
        | true => exact nomatch (unplaced.given n holds).symm.trans in_use
        | false => exact ⟨unplaced.kept n holds ▸ in_use, by simp⟩
      · exact ⟨unplaced.other d here ▸ in_use, by simp [Ne.symm here]⟩
    rw [before.2] at count
    exact count.trans (single before.1)

/-! ### Taking a place -/

theorem BranchPort.issueQueue_enqueue_perm (p : BranchPort) (urgent : Bool) (slot : Fin 32) :
    (p.enqueue urgent slot).issueQueue.Perm (slot :: p.issueQueue) := by
  cases urgent with
  | true =>
    change ((p.urgentQueue ++ [slot]) ++ p.normalQueue).Perm _
    rw [List.append_assoc]
    exact List.perm_middle
  | false =>
    change (p.urgentQueue ++ (p.normalQueue ++ [slot])).Perm _
    rw [← List.append_assoc]
    exact List.perm_append_singleton slot _

theorem BranchPort.mem_urgentQueue_enqueue {p : BranchPort} {urgent : Bool} {slot i : Fin 32} :
    i ∈ (p.enqueue urgent slot).urgentQueue ↔ i ∈ p.urgentQueue ∨ (urgent = true ∧ i = slot) := by
  cases urgent <;> simp [BranchPort.enqueue]

theorem BranchPort.mem_normalQueue_enqueue {p : BranchPort} {urgent : Bool} {slot i : Fin 32} :
    i ∈ (p.enqueue urgent slot).normalQueue ↔ i ∈ p.normalQueue ∨ (urgent = false ∧ i = slot) := by
  cases urgent <;> simp [BranchPort.enqueue]

section Placing

variable {s : State} {slot : Fin 32} {q : Record} (free : s.record slot = none)

/-- The queues do not read the tags and the settings of a port. -/
theorem State.IssueQueuesSound.setBranch (sound : s.IssueQueuesSound) {b : Fin 4} {p : BranchPort}
    (urgent : p.urgentQueue = (s.branch b).urgentQueue) (normal : p.normalQueue = (s.branch b).normalQueue) :
    (s.setBranch b p).IssueQueuesSound := by
  intro d
  have port : ((s.setBranch b p).branch d).urgentQueue = (s.branch d).urgentQueue ∧
      ((s.setBranch b p).branch d).normalQueue = (s.branch d).normalQueue := by
    rw [State.branch_setBranch]
    split
    next here => exact here ▸ ⟨urgent, normal⟩
    next => exact ⟨rfl, rfl⟩
  rw [BranchPort.issueQueue, port.1, port.2]
  exact sound d

/-- The tags' invariant does not read the queues of a port. -/
theorem State.TagsSound.setBranch (sound : s.TagsSound) {b : Fin 4} {p : BranchPort}
    (settings : p.settings = (s.branch b).settings) (tags : p.tags = (s.branch b).tags) : (s.setBranch b p).TagsSound := by
  intro d
  have port : ((s.setBranch b p).branch d).settings = (s.branch d).settings ∧
      ∀ n, ((s.setBranch b p).branch d).tag n = (s.branch d).tag n := by
    rw [State.branch_setBranch]
    split
    next here =>
      subst here
      exact ⟨settings, fun n => by rw [BranchPort.tag, tags]; rfl⟩
    next => exact ⟨rfl, fun _ => rfl⟩
  obtain ⟨issued, each⟩ := sound d
  refine ⟨?_, fun n => ?_⟩
  · rw [port.1]
    exact issued
  · rw [port.2]
    exact each n

include free

/-- A slot without a record is in no queue. -/
theorem State.IssueQueuesSound.not_mem (sound : s.IssueQueuesSound) (d : Fin 4) : slot ∉ (s.branch d).issueQueue := by
  intro queued
  obtain ⟨-, members⟩ := State.issueQueuesSound_iff.1 sound d
  rcases List.mem_append.1 queued with urgent | normal
  · obtain ⟨r, live, -⟩ := (members slot).1.1 urgent
    exact nomatch free.symm.trans live
  · obtain ⟨r, live, -⟩ := (members slot).2.1 normal
    exact nomatch free.symm.trans live

/-- A record that is not QUEUED is in no queue. -/
theorem State.IssueQueuesSound.setRecord (sound : s.IssueQueuesSound) (unqueued : q.isQueued = false) :
    (s.setRecord slot (some q)).IssueQueuesSound := by
  rw [State.issueQueuesSound_iff] at sound ⊢
  intro d
  obtain ⟨nodup, members⟩ := sound d
  refine ⟨nodup, fun i => ?_⟩
  change (i ∈ (s.branch d).urgentQueue ↔ _) ∧ (i ∈ (s.branch d).normalQueue ↔ _)
  rw [(members i).1, (members i).2, State.record_setRecord]
  split
  next here =>
    subst here
    simp [free, unqueued]
  next => exact ⟨.rfl, .rfl⟩

/-- A record that becomes QUEUED joins the queue of its class. -/
theorem State.IssueQueuesSound.queueRecord (sound : s.IssueQueuesSound) (q : Record) :
    (s.queueRecord slot q).IssueQueuesSound := by
  have absent := sound.not_mem free
  rw [State.issueQueuesSound_iff] at sound ⊢
  intro d
  obtain ⟨nodup, members⟩ := sound d
  have record (i : Fin 32) : (s.queueRecord slot q).record i =
      if slot = i then some { q with state := .queued } else s.record i := State.record_setRecord _ _ _ _
  have port : (s.queueRecord slot q).branch d =
      if q.snapshot.branch = d then (s.branch d).enqueue q.urgent slot else s.branch d := by
    refine (State.branch_setBranch _ _ _ _).trans ?_
    split
    next here => rw [← here]
    next => rfl
  rw [port]
  by_cases on : q.snapshot.branch = d
  · obtain ⟨not_urgent, not_normal⟩ : slot ∉ (s.branch d).urgentQueue ∧ slot ∉ (s.branch d).normalQueue := by
      simpa [BranchPort.issueQueue, not_or] using absent d
    rw [if_pos on]
    refine ⟨((BranchPort.issueQueue_enqueue_perm _ _ _).nodup_iff).2 (List.nodup_cons.2 ⟨absent d, nodup⟩), fun i => ?_⟩
    rw [BranchPort.mem_urgentQueue_enqueue, BranchPort.mem_normalQueue_enqueue, record]
    by_cases here : slot = i
    · subst here
      simp [not_urgent, not_normal, on, Record.isQueued]
    · simp [here, Ne.symm here, members i]
  · rw [if_neg on]
    refine ⟨nodup, fun i => ?_⟩
    rw [(members i).1, (members i).2, record]
    by_cases here : slot = i
    · subst here
      simp [free, on]
    · simp [here]

/-- A record that holds no tag leaves the tags' invariant as it was. -/
theorem State.TagsSound.setRecord (sound : s.TagsSound) (unissued : q.isIssued = false) :
    (s.setRecord slot (some q)).TagsSound := by
  have holds (n : Fin 16) : q.holdsTag n = false := by
    cases state : q.state <;> simp_all [Record.isIssued, Record.holdsTag]
  have counted (p : Record → Bool) (off : p q = false) :
      countWhere ((s.setRecord slot (some q)).recordIs p) = countWhere (s.recordIs p) := by
    simpa [free, off] using s.countWhere_setRecord slot (some q) p
  intro d
  obtain ⟨issued, each⟩ := sound d
  refine ⟨?_, fun n => ⟨fun i r live on holds_n => ?_, fun in_use => ?_⟩⟩
  · rw [State.issuedOn, counted _ (by simp [unissued])]
    exact issued
  · rw [Option.mem_def, State.record_setRecord] at live
    split at live
    next =>
      obtain rfl := Option.some.inj live
      exact nomatch (holds n).symm.trans holds_n
    next => exact (each n).1 i r live on holds_n
  · rw [counted _ (by simp [holds])]
    exact (each n).2 in_use

/-- A record that takes a FREE tag of its branch, below the window, holds it alone. -/
theorem State.TagsSound.issue (sound : s.TagsSound) {n : Fin 16} (issued : q.state = .issued n none)
    (room : s.issuedOn q.snapshot.branch < (s.branch q.snapshot.branch).settings.window)
    (tag_free : (s.branch q.snapshot.branch).tag n = .free) :
    ((s.setRecord slot (some q)).setBranch q.snapshot.branch
      ((s.branch q.snapshot.branch).setTag n (.inUse q.snapshot.profile q.snapshot.localAddress))).TagsSound := by
  have holds (m : Fin 16) : q.holdsTag m = (n == m) := by simp only [Record.holdsTag, issued]
  have is_issued : q.isIssued = true := by simp only [Record.isIssued, issued]
  have counted (p : Record → Bool) :
      countWhere ((s.setRecord slot (some q)).recordIs p) = countWhere (s.recordIs p) + (p q).toNat := by
    simpa [free] using s.countWhere_setRecord slot (some q) p
  have unheld : countWhere (s.recordIs fun r => r.snapshot.branch == q.snapshot.branch && r.holdsTag n) = 0 := by
    by_contra held
    obtain ⟨i, at_i⟩ := countWhere_ne_zero.1 held
    obtain ⟨r, live, on_n⟩ := State.recordIs_iff.1 at_i
    rw [Bool.and_eq_true, beq_iff_eq] at on_n
    have in_use := ((sound q.snapshot.branch).2 n).1 i r live on_n.1 on_n.2
    exact nomatch tag_free.symm.trans in_use
  intro d
  obtain ⟨window, each⟩ := sound d
  have settings : (((s.setRecord slot (some q)).setBranch q.snapshot.branch ((s.branch q.snapshot.branch).setTag n
      (.inUse q.snapshot.profile q.snapshot.localAddress))).branch d).settings = (s.branch d).settings := by
    rw [State.branch_setBranch]
    split
    next here => exact here ▸ rfl
    next => rfl
  have tag (m : Fin 16) : (((s.setRecord slot (some q)).setBranch q.snapshot.branch ((s.branch q.snapshot.branch).setTag n
      (.inUse q.snapshot.profile q.snapshot.localAddress))).branch d).tag m =
      if q.snapshot.branch = d ∧ n = m then .inUse q.snapshot.profile q.snapshot.localAddress
      else (s.branch d).tag m := by
    rw [State.branch_setBranch]
    by_cases here : q.snapshot.branch = d
    · subst here
      simp only [if_true, BranchPort.tag_setTag, true_and]
    · simp [here]
      rfl
  refine ⟨?_, fun m => ?_⟩
  · rw [settings]
    refine (counted fun r => r.snapshot.branch == d && r.isIssued).le.trans ?_
    change s.issuedOn d + (q.snapshot.branch == d && q.isIssued).toNat ≤ _
    by_cases here : q.snapshot.branch = d
    · subst here
      rw [beq_self_eq_true, is_issued]
      exact room
    · rw [beq_false_of_ne here]
      exact window
  rw [tag]
  refine ⟨fun i r live on holds_m => ?_, fun in_use => (counted fun r => r.snapshot.branch == d && r.holdsTag m).trans ?_⟩
  · rw [Option.mem_def] at live
    replace live := (State.record_setRecord _ _ _ _).symm.trans live
    split at live
    next =>
      obtain rfl := Option.some.inj live
      rw [holds, beq_iff_eq] at holds_m
      rw [if_pos ⟨on, holds_m⟩]
    next =>
      have in_use := (each m).1 i r live on holds_m
      rw [if_neg, in_use]
      rintro ⟨rfl, rfl⟩
      exact nomatch tag_free.symm.trans in_use
  · by_cases new : q.snapshot.branch = d ∧ n = m
    · obtain ⟨rfl, rfl⟩ := new
      simp [holds, unheld]
    · rw [if_neg new] at in_use
      rw [(each m).2 in_use, holds]
      simpa using new

end Placing

end Sys2Proof.Machine
end

section
/-! The moves of records between their places, and the branch events, keep the invariants of the Branch Ports (sections 6.2
to 6.4 and 7.2 to 7.7). -/

namespace Sys2Proof.Machine

/-! ### Ports that keep their places -/

namespace State.PortsSound

variable {s : State} (sound : s.PortsSound) {b : Fin 4}
include sound

/-- The counters, the consecutive count and the transmitter of a port are in no invariant of the places. -/
theorem recount {p : BranchPort}
    (same : p = { s.branch b with tx := p.tx, consecutive := p.consecutive, counters := p.counters }) :
    (s.setBranch b p).PortsSound := by
  have tags (n : Fin 16) : p.tag n = (s.branch b).tag n := by
    rw [same]
    rfl
  refine sound.setBranch ⟨by rw [same], by rw [same], fun n => .inl (tags n)⟩ ?_ ?_ ?_
  · rw [same]
    exact (sound.2.2 b).1
  · rw [same]
    exact id
  · rw [same]
    exact id

theorem bumpBranch (k : BranchCounter) : (s.bumpBranch b k).PortsSound := sound.recount rfl

theorem markGood : (s.markGood b).PortsSound := sound.recount rfl

/-- A record may change within its place. -/
theorem setRecord {slot : Fin 32} {r q : Record} (live : s.record slot = some r) (place : r.SamePlace q) :
    (s.setRecord slot (some q)).PortsSound := by
  obtain ⟨states, places⟩ := sound
  have record (i : Fin 32) : (s.setRecord slot (some q)).record i = if slot = i then some q else s.record i :=
    State.record_setRecord _ _ _ _
  refine ⟨states.congr (fun i => ?_) fun d => rfl,
    places.congr (fun i => ?_) (fun d => .refl _) fun d => (places.2 d).1⟩
  · rw [record]
    split
    next here =>
      subst here
      rw [live, Option.map_some, Option.map_some, place.snapshot]
    next => rfl
  · rw [record]
    split
    next here =>
      subst here
      rw [live]
      exact .some place
    next => exact samePlace_of_eq rfl

end State.PortsSound

theorem setRecord_twice (u : State) (slot : Fin 32) (first second : Option Record) :
    (u.setRecord slot first).setRecord slot second = u.setRecord slot second := by
  simp [State.setRecord]

theorem setBranch_branch (u : State) (b : Fin 4) : u.setBranch b (u.branch b) = u := by
  rw [State.setBranch, State.branch, put_look]

theorem State.BranchStatesSound.setBranch {s : State} (sound : s.BranchStatesSound) {b : Fin 4} {p : BranchPort}
    (state : p.state = (s.branch b).state) : (s.setBranch b p).BranchStatesSound := by
  refine sound.congr (fun i => rfl) fun d => ?_
  rw [State.branch_setBranch]
  split
  next here => exact here ▸ state
  next => rfl

theorem BranchPort.enqueue_frame (p : BranchPort) (urgent : Bool) (slot : Fin 32) :
    (p.enqueue urgent slot).state = p.state ∧ (p.enqueue urgent slot).settings = p.settings ∧
      (p.enqueue urgent slot).tags = p.tags := by
  cases urgent <;> exact ⟨rfl, rfl, rfl⟩

/-! ### A record out of its place -/

/-- The record of a slot, one of branch `b`, has given up its place. -/
structure State.Parted (u : State) (slot : Fin 32) (b : Fin 4) : Prop where
  places : (u.setRecord slot none).PlacesSound
  states : u.BranchStatesSound
  live : ∃ r, u.record slot = some r ∧ r.snapshot.branch = b

/-- A branch that drains becomes DISABLED with its last record; the other branches are as they were. -/
theorem State.PlacesSound.checkDrained {s : State} (places : s.PlacesSound) (works : s.LiveWorks) {b : Fin 4}
    (drains : ∀ d, d ≠ b → s.DrainsSome d) : (s.checkDrained b).PortsSound := by
  unfold State.checkDrained
  split
  next emptied =>
    rw [Bool.and_eq_true, beq_iff_eq] at emptied
    obtain ⟨-, none_left⟩ := emptied
    refine State.PortsSound.of_eq (s := s.setBranchState b .disabled) ⟨State.branchStatesSound_iff.2 ⟨?_, ?_⟩, ?_⟩ (by simp)
      (by simp)
    · intro i r live
      have off : r.snapshot.branch ≠ b := State.liveOn_eq_zero.1 none_left i r live
      rw [State.setBranchState, State.branch_setBranch_of_ne off]
      exact works i r live
    · intro d
      by_cases here : d = b
      · subst here
        intro draining
        rw [State.setBranchState, State.branch_setBranch_self] at draining
        cases draining
      · unfold State.DrainsSome
        rw [State.setBranchState, State.branch_setBranch_of_ne here]
        exact drains d here
    · exact ⟨places.1.setBranch rfl rfl, places.2.setBranch rfl rfl⟩
  next more =>
    refine ⟨State.branchStatesSound_iff.2 ⟨works, fun d => ?_⟩, places⟩
    by_cases here : d = b
    · subst here
      intro draining
      rw [draining, Bool.true_and, beq_iff_eq] at more
      exact State.one_le_liveOn_iff.1 (Nat.one_le_iff_ne_zero.2 more)
    · exact drains d here

namespace State.Parted

variable {s u : State} {slot : Fin 32} {b : Fin 4} {q : Record}

theorem of_unplaced (sound : s.PortsSound) {r : Record} (live : s.record slot = some r)
    (unplaced : s.Unplaced u slot r) : u.Parted slot r.snapshot.branch := by
  have record (i : Fin 32) : u.record i = s.record i := by rw [State.record, unplaced.records]; rfl
  exact ⟨⟨sound.2.1.unplace live unplaced, sound.2.2.unplace live unplaced⟩,
    sound.1.congr (fun i => by rw [record]) unplaced.states, r, (record slot).trans live, rfl⟩

theorem of_eq (parted : s.Parted slot b) (records : u.records = s.records) (branches : u.branches = s.branches) :
    u.Parted slot b := by
  have record (i : Fin 32) : u.record i = s.record i := by rw [State.record, records]; rfl
  obtain ⟨places, states, r, live, on⟩ := parted
  refine ⟨places.of_eq (by simp [records]) branches, states.congr (fun i => by rw [record]) fun d => ?_, r,
    (record slot).trans live, on⟩
  rw [State.branch, branches]
  rfl

section Back

variable (parted : u.Parted slot b) (on : q.snapshot.branch = b)
include parted on

theorem states_setRecord : (u.setRecord slot (some q)).BranchStatesSound := by
  obtain ⟨-, states, r, live, on_r⟩ := parted
  refine states.congr (fun i => ?_) fun d => rfl
  rw [State.record_setRecord]
  split
  next here =>
    subst here
    rw [live, Option.map_some, Option.map_some, on, on_r]
  next => rfl

theorem queueRecord : (u.queueRecord slot q).PortsSound := by
  have emptied : (u.setRecord slot none).record slot = none := State.record_setRecord_self _ _ _
  have same : (u.setRecord slot none).queueRecord slot q = u.queueRecord slot q := by
    rw [State.queueRecord, setRecord_twice]
    rfl
  obtain ⟨state, settings, tags⟩ := (u.branch q.snapshot.branch).enqueue_frame q.urgent slot
  refine ⟨State.BranchStatesSound.setBranch (parted.states_setRecord (q := { q with state := .queued }) on) state, ?_⟩
  · rw [← same]
    exact ⟨parted.places.1.queueRecord emptied q,
      State.TagsSound.setBranch (parted.places.2.setRecord (q := { q with state := .queued }) emptied rfl) settings tags⟩

/-- A record that waits for a timer alone has no place. -/
theorem timed (unqueued : q.isQueued = false) (unissued : q.isIssued = false) : (u.setRecord slot (some q)).PortsSound := by
  have emptied : (u.setRecord slot none).record slot = none := State.record_setRecord_self _ _ _
  have same : (u.setRecord slot none).setRecord slot (some q) = u.setRecord slot (some q) :=
    setRecord_twice _ _ _ _
  refine ⟨parted.states_setRecord on, ?_⟩
  rw [← same]
  exact ⟨parted.places.1.setRecord emptied unqueued, parted.places.2.setRecord emptied unissued⟩

theorem endTransaction (e : Ending) : (u.endTransaction slot q e).PortsSound := by
  obtain ⟨places, states, r, live, on_r⟩ := parted
  obtain ⟨works, drains⟩ := State.branchStatesSound_iff.1 states
  have records : (u.endRecord slot q e).records = (u.setRecord slot none).records := by simp [State.endRecord]
  have branches : (u.endRecord slot q e).branches = u.branches := by simp
  have branch (d : Fin 4) : (u.endRecord slot q e).branch d = u.branch d := by rw [State.branch, branches]; rfl
  have record (i : Fin 32) : (u.endRecord slot q e).record i = if slot = i then none else u.record i := by
    rw [State.record, records]
    exact State.record_setRecord _ _ _ _
  subst on
  refine State.PlacesSound.checkDrained (places.of_eq records branches) (fun i p at_i => ?_) fun d other draining => ?_
  · rw [record] at at_i
    split at at_i
    next => cases at_i
    next =>
      rw [branch]
      exact works i p at_i
  · rw [branch] at draining
    obtain ⟨i, p, at_i, on_p⟩ := drains d draining
    refine ⟨i, p, ?_, on_p⟩
    rw [record, if_neg, at_i]
    rintro rfl
    obtain rfl := Option.some.inj (live.symm.trans at_i)
    exact other (on_p.symm.trans on_r)

theorem takeUp (step : Step) : (u.takeUp slot q step).PortsSound := by
  cases step with
  | issue => exact parted.queueRecord on
  | await => exact parted.queueRecord (q := { q with attempts := 0 }) on
  | pause duration => exact parted.timed (q := { q with state := .paused (u.now + duration.toNat) }) on rfl rfl

theorem advance : (u.advance slot q).PortsSound := by
  unfold State.advance
  split
  next step _ => exact parted.takeUp (q := { q with step := q.step + 1 }) on step
  next => exact parted.endTransaction on .ok

theorem takeAnswer (status : Byte) (payload : List Byte) : (u.takeAnswer slot q status payload).PortsSound := by
  have reported : (u.reportMatched q.snapshot).Parted slot b := parted.of_eq (by simp) (by simp)
  unfold State.takeAnswer
  dsimp only
  split
  next bytes _ => exact reported.advance (q := { q with accumulator := q.accumulator ++ bytes }) on
  next spacing _ => exact State.Parted.timed (q := { q with attempts := q.attempts + 1, state := .spacing _ }) reported on rfl rfl
  next e _ => exact reported.endTransaction on e

theorem timeOut : (u.timeOut slot q).PortsSound := by
  unfold State.timeOut
  split
  · exact parted.queueRecord (q := { q with retries := q.retries + 1 }) on
  · exact parted.endTransaction on .timeout

/-- The record takes a FREE tag, below the window. -/
theorem issue {n : Fin 16} (room : u.issuedOn b < (u.branch b).settings.window) (free : (u.branch b).tag n = .free)
    (op : Op) (payload : List Byte) : (u.issue b slot q n op payload).PortsSound := by
  subst on
  have emptied : (u.setRecord slot none).record slot = none := State.record_setRecord_self _ _ _
  have fewer : (u.setRecord slot none).issuedOn q.snapshot.branch ≤ u.issuedOn q.snapshot.branch :=
    Nat.le_of_add_right_le (u.countWhere_setRecord slot none _).le
  have tagged := parted.places.2.issue (q := { q with state := .issued n none }) emptied rfl
    (Nat.lt_of_le_of_lt fewer room) free
  have queued := (parted.places.1.setRecord (q := { q with state := .issued n none }) emptied rfl).setBranch
    (b := q.snapshot.branch)
    (p := (u.branch q.snapshot.branch).setTag n (.inUse q.snapshot.profile q.snapshot.localAddress)) rfl rfl
  rw [setRecord_twice] at tagged queued
  have states := (parted.states_setRecord (q := { q with state := .issued n none }) rfl).setBranch
    (b := q.snapshot.branch)
    (p := (u.branch q.snapshot.branch).setTag n (.inUse q.snapshot.profile q.snapshot.localAddress)) rfl
  have issued : State.PortsSound _ := ⟨states, queued, tagged⟩
  have counted := issued.recount (b := q.snapshot.branch)
    (p := { ((u.branch q.snapshot.branch).setTag n (.inUse q.snapshot.profile q.snapshot.localAddress)).bump
        .exchangesIssued with
      tx := some (buildRequest (u.profile q.snapshot.profile) q.snapshot.localAddress n op payload) })
    (by rw [State.branch_setBranch_self]; rfl)
  rw [State.Moves.setBranch_twice, ← State.issue_setBranch, setBranch_branch] at counted
  exact counted

end Back

end State.Parted

end Sys2Proof.Machine
end

section
/-! Every command keeps branch states, Issue Queues and tags in agreement with the records, and the reset state meets every
invariant. -/

namespace Sys2Proof.Machine

/-! ### How a record comes out of its place -/

section Leaving

variable {s : State} {slot : Fin 32} {r : Record}

theorem BranchPort.isInUse_cooled (p : BranchPort) (now : Time) (tag : TagRecord) :
    (p.cooled now tag).isInUse = false := by
  cases tag <;> rfl

/-- What is undone before an ending from outside is the record's place (R94, R96). -/
theorem State.undo_unplaced (s : State) (slot : Fin 32) (r : Record) : s.Unplaced (s.undo slot r) slot r := by
  obtain ⟨tags, port⟩ := s.undo_branch_self slot r
  refine ⟨by simp, fun d => ?_, fun d other => State.undo_branch_of_ne other s slot, by rw [port], by rw [port],
    by rw [port], fun n unheld => ?_, fun n held => ?_⟩
  · by_cases here : d = r.snapshot.branch
    · subst here
      rw [port]
    · rw [State.undo_branch_of_ne here]
  · rw [State.undo_tag, unheld]
    rfl
  · rw [State.undo_tag, if_pos held]
    exact BranchPort.isInUse_cooled _ _ _

/-- A record at a timer has no place to give up. -/
theorem State.unplaced_of_timed {u : State} {d : Time} (timed : r.state = .spacing d ∨ r.state = .paused d)
    (records : u.records = s.records) (branches : u.branches = s.branches) : s.Unplaced u slot r := by
  have undone := s.undo_unplaced slot r
  rw [State.undo_of_timed timed] at undone
  have port (b : Fin 4) : u.branch b = s.branch b := by rw [State.branch, branches]; rfl
  exact ⟨records, fun d => by rw [port], fun d _ => port d, by rw [port], by rw [port]; exact undone.urgent,
    by rw [port]; exact undone.normal, fun n _ => by rw [port], fun n held => by rw [port]; exact undone.given n held⟩

/-- A matched response frees the record's tag (R126). -/
theorem State.unplaced_of_answered {n : Fin 16} {d : Option Time} (issued : r.state = .issued n d) (s : State) :
    s.Unplaced (s.setTag r.snapshot.branch n .free) slot r := by
  have unqueued : r.isQueued = false := by simp only [Record.isQueued, issued]
  have holds (m : Fin 16) : r.holdsTag m = (n == m) := by simp only [Record.holdsTag, issued]
  refine ⟨rfl, fun d => ?_, fun d other => State.branch_setBranch_of_ne other _ _, ?_, ?_, ?_, fun m unheld => ?_,
    fun m held => ?_⟩
  · rw [State.setTag, State.branch_setBranch]
    split
    next here => exact here ▸ rfl
    next => rfl
  · rw [State.setTag, State.branch_setBranch_self]
    rfl
  · rw [State.setTag, State.branch_setBranch_self]
    simp [BranchPort.setTag, unqueued]
  · rw [State.setTag, State.branch_setBranch_self]
    simp [BranchPort.setTag, unqueued]
  · rw [holds, beq_eq_false_iff_ne] at unheld
    rw [State.setTag, State.branch_setBranch_self, BranchPort.tag_setTag, if_neg unheld]
  · rw [holds, beq_iff_eq] at held
    rw [State.setTag, State.branch_setBranch_self, BranchPort.tag_setTag, if_pos held]
    rfl

end Leaving

/-! ### Branch events -/

theorem State.PlacesSound.setBranchState {s : State} (places : s.PlacesSound) (b : Fin 4) (state : BranchState) :
    (s.setBranchState b state).PlacesSound :=
  ⟨places.1.setBranch rfl rfl, places.2.setBranch rfl rfl⟩

theorem State.PlacesSound.endSlotOf {s : State} (places : s.PlacesSound) (b : Fin 4) (e : Ending) (slot : Fin 32) :
    (State.endSlotOf b e s slot).PlacesSound := by
  cases on : s.recordOn b slot with
  | none => rwa [State.endSlotOf_of_none on]
  | some r =>
    obtain ⟨live, -⟩ := State.recordOn_eq_some.1 on
    rw [State.endSlotOf_of_some on]
    have unplaced := s.undo_unplaced slot r
    refine State.PlacesSound.of_eq (s := (s.undo slot r).setRecord slot none)
      ⟨places.1.unplace live unplaced, places.2.unplace live unplaced⟩ ?_ (by simp)
    simp [State.endRecord]

theorem State.PlacesSound.endBranchRecords {s : State} (places : s.PlacesSound) (b : Fin 4) (e : Ending) :
    (s.endBranchRecords b e).PlacesSound := by
  unfold State.endBranchRecords
  generalize List.finRange 32 = slots
  induction slots generalizing s with
  | nil => exact places
  | cons slot slots ih => exact ih (places.endSlotOf b e slot)

/-- A branch event leaves the branch without a record, so it may close. -/
theorem State.PortsSound.close {s : State} (sound : s.PortsSound) (b : Fin 4) {e : Ending} (imposed : e.Imposed)
    {state : BranchState} (closed : state.working = false) :
    ((s.endBranchRecords b e).setBranchState b state).PortsSound := by
  obtain ⟨states, places⟩ := sound
  obtain ⟨works, drains⟩ := State.branchStatesSound_iff.1 states
  have after : s.EndedSlots b e (List.finRange 32) (s.endBranchRecords b e) :=
    s.endedSlots_foldl imposed b _ (List.nodup_finRange 32)
  have record (i : Fin 32) (r : Record) :
      (s.endBranchRecords b e).record i = some r ↔ s.record i = some r ∧ r.snapshot.branch ≠ b := by
    rw [after.record]
    cases live : s.record i with
    | none => simp
    | some q =>
      by_cases on : q.snapshot.branch = b
      · simp only [List.mem_finRange, State.recordOn_eq_some.2 ⟨live, on⟩, Option.isSome_some, and_self, if_true]
        simp only [Option.some.injEq, reduceCtorEq, false_iff]
        rintro ⟨rfl, off⟩
        exact off on
      · have off : s.recordOn b i = none := by
          rw [State.recordOn, live, Option.filter_some, beq_false_of_ne on]
          rfl
        simp only [off, Option.isSome_none, Bool.false_eq_true, and_false, if_false, Option.some.injEq]
        exact ⟨fun same => ⟨same, same ▸ on⟩, fun ⟨same, _⟩ => same⟩
  have ended := places.endBranchRecords b e
  have other := after.other
  clear after
  generalize s.endBranchRecords b e = t at record ended other ⊢
  refine ⟨State.branchStatesSound_iff.2 ⟨fun i r live => ?_, fun d => ?_⟩, ended.setBranchState b state⟩
  · obtain ⟨live, off⟩ := (record i r).1 live
    rw [State.setBranchState, State.branch_setBranch_of_ne off, other _ off]
    exact works i r live
  · unfold State.DrainsSome
    by_cases here : d = b
    · subst here
      rw [State.setBranchState, State.branch_setBranch_self]
      intro draining
      cases state <;> simp [BranchState.isDraining, BranchState.working] at draining closed
    · rw [State.setBranchState, State.branch_setBranch_of_ne here, other d here]
      intro draining
      obtain ⟨i, r, live, on⟩ := drains d draining
      exact ⟨i, r, (record i r).2 ⟨live, on ▸ here⟩, on⟩

theorem State.PortsSound.post {s : State} (sound : s.PortsSound) (n : Notice) : (s.post n).PortsSound :=
  sound.of_eq (by simp) (by simp)

theorem State.PortsSound.answer {s : State} (sound : s.PortsSound) (result : Result) (payload : List Byte) :
    (s.answer result payload).PortsSound :=
  sound.of_eq (by simp) (by simp)

/-! ### The frames of a branch -/

section Frames

variable {s : State} (sound : s.PortsSound) (b : Fin 4)
include sound

/-- The one record that holds an IN_USE tag is found. -/
theorem State.TagsSound.holderOf {n : Fin 16} (in_use : ((s.branch b).tag n).isInUse = true) :
    ∃ slot r d, s.holderOf b n = some slot ∧ s.record slot = some r ∧ r.snapshot.branch = b ∧ r.state = .issued n d := by
  have one := ((sound.2.2 b).2 n).2 in_use
  cases found : s.holderOf b n with
  | none =>
    have none_holds : s.recordIs (fun r => r.snapshot.branch == b && r.holdsTag n) = fun _ => false := by
      funext i
      exact Bool.eq_false_of_not_eq_true (List.find?_eq_none.1 found i (List.mem_finRange i))
    rw [none_holds, countWhere_false] at one
    cases one
  | some slot =>
    obtain ⟨r, live, holds⟩ := State.recordIs_iff.1 (State.Moves.lowest_spec found)
    rw [Bool.and_eq_true, beq_iff_eq, Record.holdsTag_iff] at holds
    obtain ⟨on, d, issued⟩ := holds
    exact ⟨slot, r, d, rfl, live, on, issued⟩

theorem State.PortsSound.takeResponse (localAddress : Byte) (n : Fin 16) (status : Byte) (payload : List Byte) :
    (s.takeResponse b localAddress n status payload).PortsSound := by
  cases at_n : (s.branch b).tag n with
  | free | cooling =>
    rw [State.takeResponse_of_late (by rw [at_n]; nofun)]
    exact sound.bumpBranch .late
  | inUse p a =>
    by_cases same : localAddress = a
    · obtain ⟨slot, r, d, found, live, rfl, issued⟩ := State.TagsSound.holderOf sound b (by rw [at_n]; rfl)
      have counted := sound.bumpBranch (b := r.snapshot.branch) .matchedResponses
      have parted := State.Parted.of_unplaced counted live (State.unplaced_of_answered issued _)
      simp only [State.takeResponse, at_n, if_pos same, found, live]
      exact parted.takeAnswer rfl status payload
    · rw [State.takeResponse_of_mismatched at_n same]
      exact sound.bumpBranch .mismatched

theorem State.PortsSound.judgeAlert (localAddress : Byte) (payload : List Byte) (severity : Fin 8)
    (address : Option Address) : (s.judgeAlert b localAddress payload severity address).PortsSound := by
  unfold State.judgeAlert
  split
  · exact sound.bumpBranch .alertsSuppressed
  · exact sound.post _

theorem State.PortsSound.alertPath (localAddress : Byte) (payload : List Byte) :
    (s.alertPath b localAddress payload).PortsSound := by
  cases found : s.reverseLookup b localAddress with
  | none => exact State.alertPath_of_unmapped found payload ▸ sound.judgeAlert b _ _ _ _
  | some entry => exact State.alertPath_of_mapped found payload ▸ sound.judgeAlert b _ _ _ _

theorem State.PortsSound.classifyBranch (f : BranchFrame) : (s.classifyBranch b f).PortsSound := by
  unfold State.classifyBranch
  repeat' split
  · exact sound.bumpBranch .unexpected
  · exact sound.takeResponse b _ _ _ _
  · exact sound.bumpBranch .unexpected
  · exact State.PortsSound.alertPath (sound.bumpBranch .alertsReceived) b _ _
  · exact sound.bumpBranch .unexpected

theorem State.PortsSound.faultBranch : (s.faultBranch b).PortsSound := by
  have closed := sound.close b (e := .branchFault) (state := .faulted) (.inl rfl) rfl
  rw [State.faultBranch]
  generalize (s.endBranchRecords b .branchFault).setBranchState b .faulted = t at closed ⊢
  exact closed.post _

theorem State.PortsSound.takeBad : (s.takeBad b).PortsSound := by
  have counted := sound.recount
    (p := { (s.branch b).bump .checkErrors with consecutive := (s.branch b).consecutive + 1 }) rfl
  rw [State.takeBad_eq]
  split
  · refine State.PortsSound.faultBranch ?_ b
    exact counted
  · exact counted

theorem State.PortsSound.receiveBranch (frame : Option BranchFrame) : (s.receiveBranch b frame).PortsSound := by
  unfold State.receiveBranch
  split
  · split
    · exact sound.markGood.classifyBranch b _
    · exact sound.takeBad b
  · exact sound.bumpBranch .framesIgnored

theorem State.PortsSound.startTimer (n : Fin 16) : (s.startTimer b n).PortsSound := by
  unfold State.startTimer
  split
  next =>
    split
    next slot found =>
      split
      next r live =>
        obtain ⟨-, d, issued⟩ := State.Moves.holderOf_spec found live
        refine sound.setRecord live ⟨rfl, rfl, ?_, ?_, fun m => ?_⟩
        · simp only [Record.isQueued, issued]
        · simp only [Record.isIssued, issued]
        · simp only [Record.holdsTag, issued]
      next => exact sound
    next => exact sound
  next => exact sound

/-- The head of the queue leaves it, and is issued or ends (R116). -/
theorem State.PortsSound.scheduleRecord {slot : Fin 32} {r : Record} (may : s.canIssue b = true)
    (queued : slot ∈ (s.branch b).issueQueue) (live : s.record slot = some r) : (s.scheduleRecord b slot r).PortsSound := by
  obtain ⟨works, idle, room, -, -⟩ := State.canIssue_iff.1 may
  obtain ⟨on, is_queued⟩ : r.snapshot.branch = b ∧ r.isQueued = true := by
    obtain ⟨-, members⟩ := State.issueQueuesSound_iff.1 sound.2.1 b
    rcases List.mem_append.1 queued with member | member
    · obtain ⟨q, at_slot, on, queued, -⟩ := (members slot).1.1 member
      exact Option.some.inj (live.symm.trans at_slot) ▸ ⟨on, queued⟩
    · obtain ⟨q, at_slot, on, queued, -⟩ := (members slot).2.1 member
      exact Option.some.inj (live.symm.trans at_slot) ▸ ⟨on, queued⟩
  subst on
  have at_queue : r.state = .queued := by
    cases state : r.state <;> simp [Record.isQueued, state] at is_queued ⊢
  have parted := State.Parted.of_unplaced sound live (s.undo_unplaced slot r)
  rw [State.undo_of_queued at_queue] at parted
  unfold State.scheduleRecord
  split
  next step n _ free =>
    split
    next =>
      dsimp only
      split
      · exact parted.endTransaction rfl .stepOversize
      · have tag_free : (s.branch r.snapshot.branch).tag n = .free := by
          have is_free := State.Moves.lowest_spec free
          cases at_n : (s.branch r.snapshot.branch).tag n <;> simp [TagRecord.isFree, at_n] at is_free ⊢
        refine parted.issue rfl ?_ ?_ _ _
        · rw [State.branch_setBranch_self]
          exact room
        · rw [State.branch_setBranch_self]
          exact tag_free
    next => exact sound
  next => exact sound

end Frames

/-! ### The requests and the frames of the trunk -/

section Requests

variable {s : State} (sound : s.PortsSound)
include sound

/-- A new record on a branch that works is no change to the states of the branches. -/
theorem State.LiveWorks.create {slot : Fin 32} {q : Record} (free : s.record slot = none)
    (works : (s.branch q.snapshot.branch).state.working = true) :
    (s.setRecord slot (some q)).BranchStatesSound := by
  obtain ⟨live_works, drains⟩ := State.branchStatesSound_iff.1 sound.1
  refine State.branchStatesSound_iff.2 ⟨fun i r live => ?_, fun d draining => ?_⟩
  · rw [State.record_setRecord] at live
    split at live
    next => exact Option.some.inj live ▸ works
    next => exact live_works i r live
  · obtain ⟨i, r, live, on⟩ := drains d draining
    refine ⟨i, r, ?_, on⟩
    rw [State.record_setRecord, if_neg, live]
    rintro rfl
    exact nomatch free.symm.trans live

/-- A new record on a branch that works takes the place that its first step gives it (R78). -/
theorem State.PortsSound.create {slot : Fin 32} {q : Record} (free : s.record slot = none)
    (works : (s.branch q.snapshot.branch).state.working = true) (step : Step) : (s.takeUp slot q step).PortsSound := by
  have queued (q' : Record) (same : q'.snapshot = q.snapshot) : (s.queueRecord slot q').PortsSound := by
    obtain ⟨state, settings, tags⟩ := (s.branch q'.snapshot.branch).enqueue_frame q'.urgent slot
    have created : (s.setRecord slot (some { q' with state := .queued })).BranchStatesSound :=
      State.LiveWorks.create sound free (by rw [same]; exact works)
    exact ⟨created.setBranch state, sound.2.1.queueRecord free q',
      State.TagsSound.setBranch (sound.2.2.setRecord (q := { q' with state := .queued }) free rfl) settings tags⟩
  cases step with
  | issue => exact queued q rfl
  | await => exact queued { q with attempts := 0 } rfl
  | pause duration =>
    exact ⟨State.LiveWorks.create sound free works, sound.2.1.setRecord free rfl, sound.2.2.setRecord free rfl⟩

theorem State.PortsSound.admission (q : TrunkRequest) : (s.admission q).PortsSound := by
  unfold State.admission
  split
  next => exact sound.of_eq (by simp [State.refuse]) (by simp [State.refuse])
  next i c op tag first accepted =>
    obtain ⟨-, -, enabled, -⟩ := State.judgeRequest_eq_accept accepted
    unfold State.createRecord
    split
    next slot step found =>
      refine sound.create (Option.isNone_iff_eq_none.1 (State.Moves.lowest_spec found)) ?_ step
      change (s.branch c.branch).state.working = true
      rw [enabled]
      rfl
    next => exact sound

theorem State.PortsSound.takeManage (address : Address) (q : ManageRequest) : (s.takeManage address q).PortsSound := by
  unfold State.takeManage State.enterManage
  split
  next =>
    split
    next =>
      dsimp only
      split
      · exact sound.of_eq (by simp) (by simp)
      all_goals exact sound.of_eq rfl rfl
    next => exact sound.of_eq (by simp) (by simp)
  next => exact sound.of_eq rfl rfl

theorem State.PortsSound.receiveTrunk (content : List Byte) : (s.receiveTrunk content).PortsSound := by
  have counted (k : TrunkCounter) : (s.bumpTrunk k).PortsSound := sound.of_eq rfl rfl
  unfold State.receiveTrunk
  split
  next f _ =>
    unfold State.classifyTrunk
    repeat' split
    · exact State.PortsSound.admission (counted .goodFrames) _
    · exact (counted .goodFrames).takeManage _ _
    · exact (counted .goodFrames).of_eq (by unfold State.takeHold; split <;> rfl) (by unfold State.takeHold; split <;> rfl)
    · exact (counted .goodFrames).of_eq (by unfold State.takeRelease; split <;> rfl)
        (by unfold State.takeRelease; split <;> rfl)
    · exact (counted .goodFrames).of_eq rfl rfl
  next => exact counted .checkErrors

theorem counterRead_portsSound (payload : List Byte) : (counterRead payload s).PortsSound := by
  unfold counterRead
  split
  next group clear =>
    split
    · exact sound.answer _ _
    split
    next b _ =>
      refine State.PortsSound.answer ?_ _ _
      split
      · exact sound.recount rfl
      · exact sound
    next =>
      refine State.PortsSound.answer ?_ _ _
      split
      · exact sound.of_eq rfl rfl
      · exact sound
  next => exact sound

theorem State.PortsSound.issuedOn_of_closed {b : Fin 4} (closed : ¬(s.branch b).state.working = true) :
    s.issuedOn b = 0 := by
  have none_live := (sound.1 b).1 (Bool.eq_false_of_not_eq_true closed)
  by_contra some_issued
  obtain ⟨i, at_i⟩ := countWhere_ne_zero.1 some_issued
  obtain ⟨r, live, on⟩ := State.recordIs_iff.1 at_i
  rw [Bool.and_eq_true, beq_iff_eq] at on
  exact State.liveOn_eq_zero.1 none_live i r live on.1

theorem branchConfig_portsSound (payload : List Byte) : (branchConfig payload s).PortsSound := by
  unfold branchConfig
  split
  next =>
    split
    next b settings _ _ =>
      split
      · exact sound.answer _ _
      next closed =>
        have configured := sound.setBranch (p := { s.branch b with settings := settings })
          ⟨rfl, rfl, fun _ => .inl rfl⟩ ((sound.issuedOn_of_closed closed).le.trans (Nat.zero_le _)) id id
        exact configured.answer _ _
    next => exact sound.answer _ _
  next => exact sound

theorem branchEnable_portsSound (b : Fin 4) : (branchEnable b s).PortsSound := by
  unfold branchEnable
  split
  · exact sound.answer _ _
  · have enabled := sound.setBranch (p := { s.branch b with state := .enabled, consecutive := 0 })
      ⟨rfl, rfl, fun _ => .inl rfl⟩ (sound.2.2 b).1 (fun _ => rfl) nofun
    exact enabled.answer _ _

theorem branchDisable_portsSound (b : Fin 4) : (branchDisable b s).PortsSound := by
  unfold branchDisable
  split
  · exact (sound.close b (state := .disabled) (.inr (.inl rfl)) rfl).answer _ _
  · exact sound.answer _ _

/-- A drain that begins on a branch without a record ends in the same event (R109, R110). -/
theorem State.PortsSound.beginDrain (b : Fin 4) (d : Time) :
    ((s.setBranchState b (.draining d)).checkDrained b).PortsSound := by
  obtain ⟨states, places⟩ := sound
  obtain ⟨works, drains⟩ := State.branchStatesSound_iff.1 states
  refine (places.setBranchState b (.draining d)).checkDrained (fun i r live => ?_) fun c other => ?_
  · rw [State.setBranchState, State.branch_setBranch]
    split
    next => rfl
    next => exact works i r live
  · unfold State.DrainsSome
    rw [State.setBranchState, State.branch_setBranch_of_ne other]
    exact drains c

theorem branchDrain_portsSound (payload : List Byte) : (branchDrain payload s).PortsSound := by
  unfold branchDrain
  split
  next =>
    split
    · exact sound.answer _ _
    next b _ =>
      split
      · exact sound.answer _ _
      split
      next => exact (sound.beginDrain b _).answer _ _
      all_goals exact sound.answer _ _
  next => exact sound

theorem transactionAbort_portsSound (payload : List Byte) : (transactionAbort payload s).PortsSound := by
  unfold transactionAbort
  split
  next tag =>
    split
    · exact sound.answer _ _
    split
    · exact sound.answer _ _
    next slot _ =>
      split
      · exact sound
      next r live =>
        exact ((State.Parted.of_unplaced sound live (s.undo_unplaced slot r)).endTransaction rfl .aborted).answer _ _
  next => exact sound

end Requests

/-! ### The commands -/

section Commands

variable {s : State} (sound : s.PortsSound)
include sound

theorem running_portsSound {act : State → State} (kept : s.resetLow = false → (act s).PortsSound) :
    (s.running act).PortsSound := by
  unfold State.running
  split
  next => exact sound
  next high => exact kept (Bool.eq_false_of_not_eq_true high)

theorem carryOut_portsSound {act : List Byte → State → State} (kept : ∀ payload, (act payload s).PortsSound) (code : Byte) :
    (s.carryOut code act).PortsSound := by
  rcases s.carryOut_cases code act with same | ⟨q, -, -, -, ⟨-, misfit⟩ | ⟨-, acted⟩⟩
  · rwa [same]
  · exact misfit ▸ sound.answer _ _
  · exact acted ▸ kept _

theorem onIndex_portsSound {n : Nat} {act : Fin n → State → State} (kept : ∀ i, (act i s).PortsSound) (payload : List Byte) :
    (onIndex n act payload s).PortsSound := by
  unfold onIndex
  split
  · split
    · exact kept _
    · exact sound.answer _ _
  · exact sound

theorem schedulerIssue_portsSound (b : Fin 4) : ∃ t, exec (.schedulerIssue b) s = .next t ∧ t.PortsSound := by
  refine ⟨_, rfl, running_portsSound sound fun high => ?_⟩
  split
  next may =>
    split
    next slot rest head =>
      split
      next r live => exact sound.scheduleRecord b may (by rw [head]; exact List.mem_cons_self) live
      next => exact sound
    next => exact sound
  next => exact sound

theorem branchTransmissionEnd_portsSound (b : Fin 4) :
    ∃ t, exec (.branchTransmissionEnd b) s = .next t ∧ t.PortsSound := by
  refine ⟨_, rfl, running_portsSound sound fun high => ?_⟩
  split
  next f _ =>
    have idle := sound.recount (b := b) (p := { s.branch b with tx := none }) rfl
    exact idle.startTimer b f.tag
  next => exact sound

theorem exchangeTimerExpiry_portsSound (b : Fin 4) (n : Fin 16) :
    ∃ t, exec (.exchangeTimerExpiry b n) s = .next t ∧ t.PortsSound := by
  refine ⟨_, rfl, running_portsSound sound fun high => ?_⟩
  split
  next slot found =>
    split
    next r live =>
      split
      next m deadline issued =>
        obtain ⟨rfl, d, at_n⟩ := State.Moves.holderOf_spec found live
        obtain ⟨rfl, -⟩ := RecordState.issued.inj (issued.symm.trans at_n)
        have counted : ((s.reach deadline).bumpBranch r.snapshot.branch .timeouts).PortsSound :=
          State.PortsSound.bumpBranch (sound.of_eq rfl rfl) .timeouts
        have parted := State.Parted.of_unplaced (slot := slot) counted live (State.undo_unplaced _ slot r)
        simp only [State.undo, issued] at parted
        exact parted.timeOut rfl
      all_goals exact sound
    next => exact sound
  next => exact sound

theorem spacingExpiry_portsSound (slot : Fin 32) : ∃ t, exec (.spacingExpiry slot) s = .next t ∧ t.PortsSound := by
  refine ⟨_, rfl, running_portsSound sound fun high => ?_⟩
  split
  next r live =>
    split
    next deadline spaced =>
      exact (State.Parted.of_unplaced sound live
        (State.unplaced_of_timed (u := s.reach deadline) (.inl spaced) rfl rfl)).queueRecord rfl
    all_goals exact sound
  next => exact sound

theorem pauseExpiry_portsSound (slot : Fin 32) : ∃ t, exec (.pauseExpiry slot) s = .next t ∧ t.PortsSound := by
  refine ⟨_, rfl, running_portsSound sound fun high => ?_⟩
  split
  next r live =>
    split
    next deadline paused =>
      exact (State.Parted.of_unplaced sound live
        (State.unplaced_of_timed (u := s.reach deadline) (.inr paused) rfl rfl)).advance rfl
    all_goals exact sound
  next => exact sound

theorem coolDeadlineExpiry_portsSound (b : Fin 4) (n : Fin 16) :
    ∃ t, exec (.coolDeadlineExpiry b n) s = .next t ∧ t.PortsSound := by
  refine ⟨_, rfl, running_portsSound sound fun high => ?_⟩
  split
  next deadline cooling =>
    have due : (s.reach deadline).PortsSound := sound.of_eq rfl rfl
    refine due.setBranch ⟨rfl, rfl, fun m => ?_⟩ (due.2.2 b).1 id id
    rw [BranchPort.tag_setTag]
    split
    next here =>
      subst here
      exact .inr ⟨by rw [show ((s.reach deadline).branch b).tag n = _ from cooling]; rfl, rfl⟩
    next => exact .inl rfl
  all_goals exact sound

theorem drainDeadlineExpiry_portsSound (b : Fin 4) : ∃ t, exec (.drainDeadlineExpiry b) s = .next t ∧ t.PortsSound := by
  refine ⟨_, rfl, running_portsSound sound fun high => ?_⟩
  split
  next deadline _ =>
    have due : (s.reach deadline).PortsSound := sound.of_eq rfl rfl
    have closed := due.close b (e := .aborted) (state := .disabled) (.inr (.inr rfl)) rfl
    generalize ((s.reach deadline).endBranchRecords b .aborted).setBranchState b .disabled = t at closed ⊢
    exact closed.post _
  all_goals exact sound

end Commands

/-- A part without records, waiting frames and exchanges, where no branch drains. -/
theorem State.portsSound_of_none {s : State} (no_record : ∀ i, s.record i = none)
    (no_queue : ∀ b, (s.branch b).issueQueue = []) (no_tag : ∀ b n, ((s.branch b).tag n).isInUse = false)
    (no_drain : ∀ b, (s.branch b).state.isDraining = false) : s.PortsSound := by
  refine ⟨State.branchStatesSound_iff.2 ⟨fun i r live => ?_, fun b draining => ?_⟩, ?_, fun b => ⟨?_, fun n => ⟨?_, ?_⟩⟩⟩
  · exact nomatch (no_record i).symm.trans live
  · exact nomatch (no_drain b).symm.trans draining
  · refine State.issueQueuesSound_iff.2 fun b => ?_
    obtain ⟨urgent, normal⟩ := List.append_eq_nil_iff.1 (no_queue b)
    rw [no_queue, urgent, normal]
    simp [no_record]
  · have none_issued : s.recordIs (fun r => r.snapshot.branch == b && r.isIssued) = fun _ => false := by
      funext i
      rw [State.recordIs_eq_any, no_record]
      rfl
    rw [State.issuedOn, none_issued, countWhere_false]
    exact Nat.zero_le _
  · intro i r live
    exact nomatch (no_record i).symm.trans live
  · intro in_use
    exact nomatch (no_tag b n).symm.trans in_use

/-- A part whose ports are as at reset but for their transmitters. -/
theorem State.portsSound_of_reset {s : State} (no_record : ∀ i, s.record i = none)
    (ports : ∀ b, ∃ tx, s.branch b = { resetPort with tx := tx }) : s.PortsSound := by
  refine State.portsSound_of_none no_record (fun b => ?_) (fun b n => ?_) fun b => ?_
  all_goals
    obtain ⟨tx, port⟩ := ports b
    rw [port]
  · rfl
  · change (resetPort.tag n).isInUse = false
    rw [resetPort_tag]
    rfl
  · rfl

theorem State.Begins.portsSound {c : Instr} {s u : State} (begins : s.Begins c u) (sound : s.PortsSound) : u.PortsSound := by
  cases begins with
  | same => exact sound
  | hardReset =>
    exact State.portsSound_of_reset (fun i => look_replicate _ _) fun b => ⟨none, s.hardReset_branch b⟩
  | hardResetEnd straps =>
    unfold State.endHardReset
    split
    · exact sound.of_eq rfl rfl
    · exact sound
  | traffic =>
    refine State.portsSound_of_none (fun i => look_replicate _ _) (fun b => ?_) (fun b n => ?_) fun b => ?_
    all_goals rw [s.branch_afterTraffic]
    · rfl
    · rw [BranchPort.tag_afterTraffic]
      exact BranchPort.isInUse_cooled _ _ _
    · change (BranchState.afterTraffic _).isDraining = false
      cases (s.branch b).state <;> rfl
  | full =>
    exact State.portsSound_of_reset (fun i => look_replicate _ _) fun b => ⟨_, s.branch_afterFull b⟩

/-- Every command keeps the invariants of the Branch Ports: by its own meaning where it reaches a branch, by its moves where
it reaches none. -/
theorem exec_portsSound {c : Instr} {s t : State} (next : exec c s = .next t) (sound : s.PortsSound) : t.PortsSound := by
  have frames (payload : List Byte) {act : State → State} (kept : ∀ u : State, u.PortsSound → (act u).PortsSound) :
      (s.receiveGood payload act).PortsSound := by
    unfold State.receiveGood
    split
    · exact kept _ (sound.of_eq rfl rfl)
    · exact sound.of_eq rfl rfl
  have taken : (∃ t, exec c s = .next t ∧ t.PortsSound) ∨ ∀ u b, ¬State.Reaches u c b := by
    cases c with
    | trunkFrame content => exact .inl ⟨_, rfl, running_portsSound sound fun _ => sound.receiveTrunk content⟩
    | request flags address tag op payload =>
      exact .inl ⟨_, rfl, running_portsSound sound fun _ => frames payload fun u h => h.admission _⟩
    | counterRead => exact .inl ⟨_, rfl, carryOut_portsSound sound (counterRead_portsSound sound) _⟩
    | branchConfig => exact .inl ⟨_, rfl, carryOut_portsSound sound (branchConfig_portsSound sound) _⟩
    | branchEnable =>
      exact .inl ⟨_, rfl, carryOut_portsSound sound (onIndex_portsSound sound (branchEnable_portsSound sound)) _⟩
    | branchDrain => exact .inl ⟨_, rfl, carryOut_portsSound sound (branchDrain_portsSound sound) _⟩
    | branchDisable =>
      exact .inl ⟨_, rfl, carryOut_portsSound sound (onIndex_portsSound sound (branchDisable_portsSound sound)) _⟩
    | transactionAbort => exact .inl ⟨_, rfl, carryOut_portsSound sound (transactionAbort_portsSound sound) _⟩
    | branchFrame b content => exact .inl ⟨_, rfl, running_portsSound sound fun _ => sound.receiveBranch b _⟩
    | branchResponse b localAddress tag status payload =>
      exact .inl ⟨_, rfl, running_portsSound sound fun _ => sound.receiveBranch b _⟩
    | alert b localAddress payload => exact .inl ⟨_, rfl, running_portsSound sound fun _ => sound.receiveBranch b _⟩
    | schedulerIssue b => exact .inl (schedulerIssue_portsSound sound b)
    | branchTransmissionEnd b => exact .inl (branchTransmissionEnd_portsSound sound b)
    | exchangeTimerExpiry b n => exact .inl (exchangeTimerExpiry_portsSound sound b n)
    | spacingExpiry slot => exact .inl (spacingExpiry_portsSound sound slot)
    | pauseExpiry slot => exact .inl (pauseExpiry_portsSound sound slot)
    | coolDeadlineExpiry b n => exact .inl (coolDeadlineExpiry_portsSound sound b n)
    | drainDeadlineExpiry b => exact .inl (drainDeadlineExpiry_portsSound sound b)
    | _ => exact .inr fun _ _ => id
  rcases taken with ⟨u, is, kept⟩ | none_reached
  · exact Host.Outcome.next.inj (is.symm.trans next) ▸ kept
  · obtain ⟨u, begins, m⟩ := exec_next next
    obtain ⟨records, branches⟩ := m.unreached (none_reached u)
    exact (begins.portsSound sound).of_eq records branches

/-- Settles O52: every record keeps its place or moves between places as the invariants say; that it fits its step is not
needed for it. -/
theorem stepKeepsTheBranchPortsSound : Obligations.StepKeepsTheBranchPortsSound := by
  intro s t states queues tags _ next
  have sound : s.PortsSound := ⟨states, queues, tags⟩
  rcases step_eq_next next with rfl | ⟨c, rest, next⟩
  · exact sound.of_eq rfl rfl
  · exact exec_portsSound next (sound.of_eq rfl rfl)

/-! ### The reset state -/

/-- Settles O47, invariant by invariant: the tables and queues are empty, and the settings are the defaults. -/
theorem resetMeetsEveryInvariant : Obligations.ResetMeetsEveryInvariant := by
  have no_record (i : Fin 32) : State.reset.record i = none := look_replicate _ _
  have port (b : Fin 4) : State.reset.branch b = resetPort := look_replicate _ _
  have no_recipe (k : Fin 32) : State.reset.recipe k = none := look_replicate _ _
  have no_block (k : Fin 32) : State.reset.block k = [] := look_replicate _ _
  obtain ⟨states, queues, tags⟩ : State.reset.PortsSound :=
    State.portsSound_of_reset no_record fun b => ⟨none, port b⟩
  refine ⟨?routes, ?trunk, ?built, ?budget, ⟨⟨?recipes, ?blocks⟩, ?records⟩, states, queues, tags, ?settings, ?notices, ?attn⟩
  case routes => exact State.routesSound_of_empty fun i => congrArg RouteEntry.live (look_replicate _ _)
  case trunk => exact ⟨Nat.zero_le _, Nat.zero_le _, fun _ => rfl, nofun, fun _ => rfl, nofun⟩
  case built => exact nofun
  case budget => exact State.budgetSound_of_none no_record (Nat.zero_le _)
  case recipes => exact fun k r loaded => nomatch (no_recipe k).symm.trans loaded
  case blocks =>
    intro k
    rw [no_block]
    exact Nat.zero_le _
  case records => exact fun i r live => nomatch (no_record i).symm.trans live
  case settings =>
    refine ⟨fun b => ?_, defaultProfile_sound, by decide, by decide⟩
    rw [port]
    exact resetPort_settingsSound none
  case notices => exact ⟨Nat.zero_le _, nofun, List.nodup_nil⟩
  case attn => exact ⟨rfl, nofun⟩

end Sys2Proof.Machine
end
